-- ==== Sys2Proof/Word.lean ====
section
/-! DEFINITION. The widths of TFG-DSP's data (00_scope.md R8, R10, R12): type names only, no arithmetic. -/

namespace Sys2Proof

/-- A register of the register space: one 32-bit word (R10, R46, R73). -/
abbrev Word := BitVec 32

/-- An audio sample: 16 bits, two's complement, Q1.15 (R8 row `SW`, R12). -/
abbrev Sample := BitVec 16

/-- An envelope level: 16 bits unsigned, UQ1.15, 1.0 = 0x8000 (R8 row `LW`). -/
abbrev Level := BitVec 16

/-- An envelope duration or elapsed count in ticks: 24 bits unsigned (R8 row `DW`, R17). -/
abbrev Ticks := BitVec 24

/-- A byte address of the register space: 10 bits (R8 row `AW`, R70). -/
abbrev Addr := BitVec 10

/-- A transaction word: {W, ADDR[9:0], DATA[31:0]}, 43 bits (R90). -/
abbrev TxnWord := BitVec 43

end Sys2Proof
end

