-- ==== Sys2Proof/Config.lean ====
section
/-! DEFINITION. The implementation parameters of TFG-DSP (00_scope.md R8): the number of voices N and the sine table. FS and
TICK_LATENCY are read by no rule of the block: FS is an argument of the host's conversions (Machine/HostConversions.lean), and
TICK_LATENCY is timing (log entry 10). -/

namespace Sys2Proof

/-- The parameter table `SINE_LUT` (R262): the default contents, named and not written out, or a table the build supplies.
The default's entries stand in Machine/SineTable.lean. -/
inductive SineTable where
  /-- The default of R262. -/
  | standard
  /-- A build's own 1024 signed 16-bit entries, index 0 first. -/
  | custom (entries : List Sample)
deriving DecidableEq, Repr

/-- The parameters of R8 that a rule of the block reads. -/
structure Config where
  /-- `N`, the number of voices, 1 ≤ N ≤ 16. -/
  n : Nat
  /-- `SINE_LUT`. -/
  sineLut : SineTable
deriving DecidableEq, Repr

/-- The defaults of R8: N = 8 and the default table of R262. -/
def Config.standard : Config := { n := 8, sineLut := .standard }

end Sys2Proof
end

