-- ==== Sys2Proof/Syntax.lean ====
section
/-! DEFINITION. The operations of TFG-DSP, one constructor per row of spec/opcode_table.json (30_encoding.md R98), the words its
two input ports carry (R90, R96), the registers of the register map (10_state.md R46), the error codes (60_exceptions.md R300)
and the textual program forms (R102, R103) as data. -/

namespace Sys2Proof

/-- The operations (R98): every bus transaction of the opcode table and the TICK event. `data` is the transaction's DATA field,
`v` its voice index VIDX (R92). A read carries no DATA, because it ignores it (R93). -/
inductive Instr where
  /-- RD_ID (R122). -/
  | rdId
  /-- RD_CONFIG (R123). -/
  | rdConfig
  /-- RD_CTRL (R124). -/
  | rdCtrl
  /-- WR_CTRL (R125). -/
  | wrCtrl (data : Word)
  /-- RD_STATUS (R126). -/
  | rdStatus
  /-- WR_STATUS (R127). -/
  | wrStatus (data : Word)
  /-- RD_IRQ_EN (R128). -/
  | rdIrqEn
  /-- WR_IRQ_EN (R129). -/
  | wrIrqEn (data : Word)
  /-- COMMIT (R160). -/
  | commit
  /-- FILTER_CLEAR (R131). -/
  | filterClear
  /-- SOFT_RESET (R132). -/
  | softReset
  /-- RD_ERR_INFO (R134). -/
  | rdErrInfo
  /-- RD_IDLE_EVENTS (R135). -/
  | rdIdleEvents
  /-- WR_IDLE_EVENTS (R136). -/
  | wrIdleEvents (data : Word)
  /-- RD_ACTIVE_MASK (R137). -/
  | rdActiveMask
  /-- RD_ACTIVE_COUNT (R138). -/
  | rdActiveCount
  /-- RD_SAMPLE_COUNT (R139). -/
  | rdSampleCount
  /-- RD_MIX_OUT (R140). -/
  | rdMixOut
  /-- RD_LAST_OUT (R141). -/
  | rdLastOut
  /-- WR_B0 (R162). -/
  | wrB0 (data : Word)
  /-- WR_B1 (R163). -/
  | wrB1 (data : Word)
  /-- WR_B2 (R164). -/
  | wrB2 (data : Word)
  /-- WR_A1 (R165). -/
  | wrA1 (data : Word)
  /-- WR_A2 (R166). -/
  | wrA2 (data : Word)
  /-- WR_ATTACK (R167). -/
  | wrAttack (data : Word)
  /-- WR_DECAY (R168). -/
  | wrDecay (data : Word)
  /-- WR_RELEASE (R169). -/
  | wrRelease (data : Word)
  /-- WR_SUSTAIN (R170). -/
  | wrSustain (data : Word)
  /-- WR_MIX_GAIN (R171). -/
  | wrMixGain (data : Word)
  /-- WR_WAVEFORM (R172). -/
  | wrWaveform (data : Word)
  /-- RD_B0 (R173). -/
  | rdB0
  /-- RD_B1 (R174). -/
  | rdB1
  /-- RD_B2 (R175). -/
  | rdB2
  /-- RD_A1 (R176). -/
  | rdA1
  /-- RD_A2 (R177). -/
  | rdA2
  /-- RD_ATTACK (R178). -/
  | rdAttack
  /-- RD_DECAY (R179). -/
  | rdDecay
  /-- RD_RELEASE (R180). -/
  | rdRelease
  /-- RD_SUSTAIN (R181). -/
  | rdSustain
  /-- RD_MIX_GAIN (R182). -/
  | rdMixGain
  /-- RD_WAVEFORM (R183). -/
  | rdWaveform
  /-- RD_X1 (R142). -/
  | rdX1
  /-- RD_X2 (R143). -/
  | rdX2
  /-- RD_Y1 (R144). -/
  | rdY1
  /-- RD_Y2 (R145). -/
  | rdY2
  /-- RD_ACT_B0 (R184). -/
  | rdActB0
  /-- RD_ACT_B1 (R185). -/
  | rdActB1
  /-- RD_ACT_B2 (R186). -/
  | rdActB2
  /-- RD_ACT_A1 (R187). -/
  | rdActA1
  /-- RD_ACT_A2 (R188). -/
  | rdActA2
  /-- RD_ACT_ATTACK (R189). -/
  | rdActAttack
  /-- RD_ACT_DECAY (R190). -/
  | rdActDecay
  /-- RD_ACT_RELEASE (R191). -/
  | rdActRelease
  /-- RD_ACT_SUSTAIN (R192). -/
  | rdActSustain
  /-- RD_ACT_MIX_GAIN (R193). -/
  | rdActMixGain
  /-- RD_ACT_WAVEFORM (R194). -/
  | rdActWaveform
  /-- WR_V_PINC (R201). -/
  | wrVPinc (v : BitVec 4) (data : Word)
  /-- RD_V_PINC (R202). -/
  | rdVPinc (v : BitVec 4)
  /-- WR_V_PHASE (R203). -/
  | wrVPhase (v : BitVec 4) (data : Word)
  /-- RD_V_PHASE (R204). -/
  | rdVPhase (v : BitVec 4)
  /-- GATE_ON (R206). -/
  | gateOn (v : BitVec 4)
  /-- GATE_OFF (R207). -/
  | gateOff (v : BitVec 4)
  /-- RD_V_ENV (R208). -/
  | rdVEnv (v : BitVec 4)
  /-- RD_V_ELAPSED (R209). -/
  | rdVElapsed (v : BitVec 4)
  /-- RD_V_START (R210). -/
  | rdVStart (v : BitVec 4)
  /-- RD_V_WAVE (R211). -/
  | rdVWave (v : BitVec 4)
  /-- TICK (R230). -/
  | tick
deriving DecidableEq, Repr

/-- What an input port presents to the block. -/
inductive PortWord where
  /-- One bus transaction, the 43-bit word {W, ADDR, DATA} (R90). -/
  | txn (w : TxnWord)
  /-- The tick port's one-bit strobe (R96): 1 is a TICK event, 0 is no event. -/
  | strobe (b : BitVec 1)
deriving DecidableEq, Repr

/-- The errors the decoder raises (R300). Each is the meaning of one value of ERR_INFO.CODE. -/
inductive BusError where
  /-- Code 1: ADDR[1:0] ≠ 0. -/
  | misaligned
  /-- Code 2: an aligned address that names no register. -/
  | unmapped
  /-- Code 3: a voice window of a voice index at or above N. -/
  | noVoice
  /-- Code 4: a write to a read-only register. -/
  | roWrite
  /-- Code 5: a read of a write-only register. -/
  | woRead
  /-- Code 6: a write of an unlisted code to COMMAND or V_VCMD. -/
  | badCommand
deriving DecidableEq, Repr

/-- What the decoder says of a port's word (R97): one operation, one error, or, for a strobe of 0, no event (R96). -/
inductive Decoded where
  | op (i : Instr)
  | error (c : BusError)
  | noEvent
deriving DecidableEq, Repr

/-- The eleven fields of a parameter set, in address order (R29, R98). -/
inductive Param where
  | B0 | B1 | B2 | A1 | A2 | ATTACK | DECAY | RELEASE | SUSTAIN | MIX_GAIN | WAVEFORM
deriving DecidableEq, Repr

/-- The registers of one voice window, in the order of VREG (R92). VREG 7 is reserved and is none of them. -/
inductive VoiceReg where
  | V_PINC | V_PHASE | V_VCMD | V_ENV | V_ELAPSED | V_START | V_WAVE
deriving DecidableEq, Repr

/-- The registers of the register map (R46). -/
inductive Reg where
  | ID | CONFIG | CTRL | STATUS | IRQ_EN | COMMAND | ERR_INFO | IDLE_EVENTS | ACTIVE_MASK | ACTIVE_COUNT | SAMPLE_COUNT
  | MIX_OUT | LAST_OUT
  /-- A shadow parameter register, 0x040 to 0x068. -/
  | shadow (p : Param)
  | X1 | X2 | Y1 | Y2
  /-- An ACT_ register, 0x0C0 to 0x0E8. -/
  | act (p : Param)
  /-- Register `r` of the window of voice `v`. -/
  | voice (v : BitVec 4) (r : VoiceReg)
deriving DecidableEq, Repr

/-- The access codes of the register map (R46): RO, RW (the W1C registers among them, R97) and WO. -/
inductive Access where
  | ro | rw | wo
deriving DecidableEq, Repr

/-- One statement of the textual program form (R102), its register name already read as a register. -/
inductive Statement where
  /-- `RD <REG>`. -/
  | rd (r : Reg)
  /-- `WR <REG>, <value>`: a negative value stands for its 32-bit two's complement. -/
  | wr (r : Reg) (value : Int)
  /-- `TICK <n>`; `TICK` is n = 1. -/
  | tick (n : Nat)
deriving DecidableEq, Repr

/-- The pseudo-instructions (R103). -/
inductive Pseudo where
  | commit | filterClear | softReset
  | gateOn (v : BitVec 4)
  | gateOff (v : BitVec 4)
  | noteOn (v : BitVec 4) (pinc : Int)
  | ackErr | ackClip
  | ackIdle (v : BitVec 4)
  | publish (values : List (Param × Int))
deriving DecidableEq, Repr

end Sys2Proof
end

