-- ==== Sys2Proof/WellFormed.lean ====
section
/-! DEFINITION. Which instructions and which parameters are well formed. The only operand of an operation that the spec limits is
the voice index, which must be below N (30_encoding.md R92, R98). The parameters' bounds are those of R8 and R262. -/

namespace Sys2Proof

/-- The voice index an instruction carries (R92), if it is a voice operation. -/
def Instr.voiceIndex : Instr → Option (BitVec 4)
  | .rdId | .rdConfig | .rdCtrl | .wrCtrl _ | .rdStatus | .wrStatus _ | .rdIrqEn | .wrIrqEn _ | .commit
  | .filterClear | .softReset | .rdErrInfo | .rdIdleEvents | .wrIdleEvents _ | .rdActiveMask | .rdActiveCount
  | .rdSampleCount | .rdMixOut | .rdLastOut | .wrB0 _ | .wrB1 _ | .wrB2 _ | .wrA1 _ | .wrA2 _ | .wrAttack _
  | .wrDecay _ | .wrRelease _ | .wrSustain _ | .wrMixGain _ | .wrWaveform _ | .rdB0 | .rdB1 | .rdB2 | .rdA1 | .rdA2
  | .rdAttack | .rdDecay | .rdRelease | .rdSustain | .rdMixGain | .rdWaveform | .rdX1 | .rdX2 | .rdY1 | .rdY2
  | .rdActB0 | .rdActB1 | .rdActB2 | .rdActA1 | .rdActA2 | .rdActAttack | .rdActDecay | .rdActRelease | .rdActSustain
  | .rdActMixGain | .rdActWaveform | .tick => none
  | .wrVPinc v _ | .rdVPinc v | .wrVPhase v _ | .rdVPhase v | .gateOn v | .gateOff v | .rdVEnv v | .rdVElapsed v
  | .rdVStart v | .rdVWave v => some v

/-- An instruction is well formed for a block of `n` voices when its voice index, if it has one, is below `n` (R98). -/
def Instr.wf (n : Nat) (i : Instr) : Bool :=
  match i.voiceIndex with
  | none => true
  | some v => decide (v.toNat < n)

/-- A sine table is well formed when it has 1024 entries, each in [-32767, 32767] (R262: -32768 is excluded). -/
def SineTable.wf : SineTable → Bool
  | .standard => true
  | .custom entries => decide (entries.length = 1024) && entries.all (fun e => decide (e ≠ 0x8000#16))

/-- The bounds of the parameters (R8): 1 ≤ N ≤ 16 and a well-formed table. -/
def Config.wf (c : Config) : Bool :=
  decide (1 ≤ c.n) && decide (c.n ≤ 16) && c.sineLut.wf

end Sys2Proof
end

