-- ==== Sys2Proof/Decode.lean ====
section
/-! DEFINITION. The register map (10_state.md R46), the decoder of transaction words and of the tick strobe (30_encoding.md R90
to R99), total and rejecting by error name, the encoder of R98, and the opcode table's numbering of an instruction's bits. -/

namespace Sys2Proof

/-! ### The fields of a transaction word (R90, R92) -/

/-- W, bit 42 (R90). -/
def txnW (w : TxnWord) : BitVec 1 := w.extractLsb' 42 1

/-- ADDR, bits [41:32] (R90). -/
def txnAddr (w : TxnWord) : Addr := w.extractLsb' 32 10

/-- DATA, bits [31:0] (R90). -/
def txnData (w : TxnWord) : Word := w.extractLsb' 0 32

/-- A transaction word from its fields: W·2^42 + ADDR·2^32 + DATA (R90). -/
def txnWord (w : BitVec 1) (addr : Addr) (data : Word) : TxnWord := (w ++ addr) ++ data

/-- ADDR[1:0], which must be 00 (R92). -/
def addrAlign (addr : Addr) : BitVec 2 := addr.extractLsb' 0 2

/-- ADDR[9] = 1: the voice half of the register space (R70, R92). -/
def addrInVoiceHalf (addr : Addr) : Bool := addr.getLsbD 9

/-- VIDX, ADDR[8:5] (R92). -/
def addrVoice (addr : Addr) : BitVec 4 := addr.extractLsb' 5 4

/-- VREG, ADDR[4:2] (R92). -/
def addrVoiceReg (addr : Addr) : BitVec 3 := addr.extractLsb' 2 3

/-! ### The register map (R46) -/

/-- The voice register of a VREG value (R92): 7 is reserved. -/
def voiceRegOf (g : BitVec 3) : Option VoiceReg :=
  match g.toNat with
  | 0 => some .V_PINC
  | 1 => some .V_PHASE
  | 2 => some .V_VCMD
  | 3 => some .V_ENV
  | 4 => some .V_ELAPSED
  | 5 => some .V_START
  | 6 => some .V_WAVE
  | _ => none

/-- The global register at a byte address (R46): every other address of the global half is reserved (R77). -/
def globalRegOf (addr : Addr) : Option Reg :=
  match addr.toNat with
  | 0x000 => some .ID
  | 0x004 => some .CONFIG
  | 0x008 => some .CTRL
  | 0x00C => some .STATUS
  | 0x010 => some .IRQ_EN
  | 0x014 => some .COMMAND
  | 0x018 => some .ERR_INFO
  | 0x01C => some .IDLE_EVENTS
  | 0x020 => some .ACTIVE_MASK
  | 0x024 => some .ACTIVE_COUNT
  | 0x028 => some .SAMPLE_COUNT
  | 0x02C => some .MIX_OUT
  | 0x030 => some .LAST_OUT
  | 0x040 => some (.shadow .B0)
  | 0x044 => some (.shadow .B1)
  | 0x048 => some (.shadow .B2)
  | 0x04C => some (.shadow .A1)
  | 0x050 => some (.shadow .A2)
  | 0x054 => some (.shadow .ATTACK)
  | 0x058 => some (.shadow .DECAY)
  | 0x05C => some (.shadow .RELEASE)
  | 0x060 => some (.shadow .SUSTAIN)
  | 0x064 => some (.shadow .MIX_GAIN)
  | 0x068 => some (.shadow .WAVEFORM)
  | 0x080 => some .X1
  | 0x084 => some .X2
  | 0x088 => some .Y1
  | 0x08C => some .Y2
  | 0x0C0 => some (.act .B0)
  | 0x0C4 => some (.act .B1)
  | 0x0C8 => some (.act .B2)
  | 0x0CC => some (.act .A1)
  | 0x0D0 => some (.act .A2)
  | 0x0D4 => some (.act .ATTACK)
  | 0x0D8 => some (.act .DECAY)
  | 0x0DC => some (.act .RELEASE)
  | 0x0E0 => some (.act .SUSTAIN)
  | 0x0E4 => some (.act .MIX_GAIN)
  | 0x0E8 => some (.act .WAVEFORM)
  | _ => none

/-- The register an aligned address names (R46), whatever N is: the decoder tests the voice index before it asks. -/
def regOf (addr : Addr) : Option Reg :=
  if addrInVoiceHalf addr then (voiceRegOf (addrVoiceReg addr)).map (.voice (addrVoice addr)) else globalRegOf addr

/-- The offset of a voice register in its window (R46). -/
def VoiceReg.offset : VoiceReg → Addr
  | .V_PINC => 0x00#10
  | .V_PHASE => 0x04#10
  | .V_VCMD => 0x08#10
  | .V_ENV => 0x0C#10
  | .V_ELAPSED => 0x10#10
  | .V_START => 0x14#10
  | .V_WAVE => 0x18#10

/-- The address of offset `off` in the window of voice `v`: 0x200 + 0x20·v + off (R46). -/
def voiceAddr (v : BitVec 4) (off : Addr) : Addr := 0x200#10 + 0x20#10 * v.setWidth 10 + off

/-- The byte address of a register (R46). -/
def Reg.addr : Reg → Addr
  | .ID => 0x000#10
  | .CONFIG => 0x004#10
  | .CTRL => 0x008#10
  | .STATUS => 0x00C#10
  | .IRQ_EN => 0x010#10
  | .COMMAND => 0x014#10
  | .ERR_INFO => 0x018#10
  | .IDLE_EVENTS => 0x01C#10
  | .ACTIVE_MASK => 0x020#10
  | .ACTIVE_COUNT => 0x024#10
  | .SAMPLE_COUNT => 0x028#10
  | .MIX_OUT => 0x02C#10
  | .LAST_OUT => 0x030#10
  | .shadow .B0 => 0x040#10
  | .shadow .B1 => 0x044#10
  | .shadow .B2 => 0x048#10
  | .shadow .A1 => 0x04C#10
  | .shadow .A2 => 0x050#10
  | .shadow .ATTACK => 0x054#10
  | .shadow .DECAY => 0x058#10
  | .shadow .RELEASE => 0x05C#10
  | .shadow .SUSTAIN => 0x060#10
  | .shadow .MIX_GAIN => 0x064#10
  | .shadow .WAVEFORM => 0x068#10
  | .X1 => 0x080#10
  | .X2 => 0x084#10
  | .Y1 => 0x088#10
  | .Y2 => 0x08C#10
  | .act .B0 => 0x0C0#10
  | .act .B1 => 0x0C4#10
  | .act .B2 => 0x0C8#10
  | .act .A1 => 0x0CC#10
  | .act .A2 => 0x0D0#10
  | .act .ATTACK => 0x0D4#10
  | .act .DECAY => 0x0D8#10
  | .act .RELEASE => 0x0DC#10
  | .act .SUSTAIN => 0x0E0#10
  | .act .MIX_GAIN => 0x0E4#10
  | .act .WAVEFORM => 0x0E8#10
  | .voice v r => voiceAddr v r.offset

/-- The access code of a register (R46). -/
def Reg.access : Reg → Access
  | .ID | .CONFIG | .ERR_INFO | .ACTIVE_MASK | .ACTIVE_COUNT | .SAMPLE_COUNT | .MIX_OUT | .LAST_OUT | .X1 | .X2 | .Y1 | .Y2
  | .act _ | .voice _ .V_ENV | .voice _ .V_ELAPSED | .voice _ .V_START | .voice _ .V_WAVE => .ro
  | .CTRL | .STATUS | .IRQ_EN | .IDLE_EVENTS | .shadow _ | .voice _ .V_PINC | .voice _ .V_PHASE => .rw
  | .COMMAND | .voice _ .V_VCMD => .wo

/-! ### The operations on a register (R95, R98) -/

/-- The operation of a write of `data` to COMMAND, none for an unlisted code (R95). The whole DATA is compared. -/
def commandOp (data : Word) : Option Instr :=
  if data = 0x00000001#32 then some .commit
  else if data = 0x00000002#32 then some .filterClear
  else if data = 0x00000003#32 then some .softReset
  else none

/-- The operation of a write of `data` to voice `v`'s V_VCMD, none for an unlisted code (R95). -/
def voiceCommandOp (v : BitVec 4) (data : Word) : Option Instr :=
  if data = 0x00000001#32 then some (.gateOn v)
  else if data = 0x00000002#32 then some (.gateOff v)
  else none

/-- The read operation of a register (R98): none for a write-only one. -/
def readOp : Reg → Option Instr
  | .ID => some .rdId
  | .CONFIG => some .rdConfig
  | .CTRL => some .rdCtrl
  | .STATUS => some .rdStatus
  | .IRQ_EN => some .rdIrqEn
  | .ERR_INFO => some .rdErrInfo
  | .IDLE_EVENTS => some .rdIdleEvents
  | .ACTIVE_MASK => some .rdActiveMask
  | .ACTIVE_COUNT => some .rdActiveCount
  | .SAMPLE_COUNT => some .rdSampleCount
  | .MIX_OUT => some .rdMixOut
  | .LAST_OUT => some .rdLastOut
  | .X1 => some .rdX1
  | .X2 => some .rdX2
  | .Y1 => some .rdY1
  | .Y2 => some .rdY2
  | .shadow .B0 => some .rdB0
  | .shadow .B1 => some .rdB1
  | .shadow .B2 => some .rdB2
  | .shadow .A1 => some .rdA1
  | .shadow .A2 => some .rdA2
  | .shadow .ATTACK => some .rdAttack
  | .shadow .DECAY => some .rdDecay
  | .shadow .RELEASE => some .rdRelease
  | .shadow .SUSTAIN => some .rdSustain
  | .shadow .MIX_GAIN => some .rdMixGain
  | .shadow .WAVEFORM => some .rdWaveform
  | .act .B0 => some .rdActB0
  | .act .B1 => some .rdActB1
  | .act .B2 => some .rdActB2
  | .act .A1 => some .rdActA1
  | .act .A2 => some .rdActA2
  | .act .ATTACK => some .rdActAttack
  | .act .DECAY => some .rdActDecay
  | .act .RELEASE => some .rdActRelease
  | .act .SUSTAIN => some .rdActSustain
  | .act .MIX_GAIN => some .rdActMixGain
  | .act .WAVEFORM => some .rdActWaveform
  | .voice v .V_PINC => some (.rdVPinc v)
  | .voice v .V_PHASE => some (.rdVPhase v)
  | .voice v .V_ENV => some (.rdVEnv v)
  | .voice v .V_ELAPSED => some (.rdVElapsed v)
  | .voice v .V_START => some (.rdVStart v)
  | .voice v .V_WAVE => some (.rdVWave v)
  | .COMMAND | .voice _ .V_VCMD => none

/-- The write operation of a register (R98): none for a read-only one, and for an unlisted command code. -/
def writeOp (r : Reg) (data : Word) : Option Instr :=
  match r with
  | .CTRL => some (.wrCtrl data)
  | .STATUS => some (.wrStatus data)
  | .IRQ_EN => some (.wrIrqEn data)
  | .IDLE_EVENTS => some (.wrIdleEvents data)
  | .COMMAND => commandOp data
  | .shadow .B0 => some (.wrB0 data)
  | .shadow .B1 => some (.wrB1 data)
  | .shadow .B2 => some (.wrB2 data)
  | .shadow .A1 => some (.wrA1 data)
  | .shadow .A2 => some (.wrA2 data)
  | .shadow .ATTACK => some (.wrAttack data)
  | .shadow .DECAY => some (.wrDecay data)
  | .shadow .RELEASE => some (.wrRelease data)
  | .shadow .SUSTAIN => some (.wrSustain data)
  | .shadow .MIX_GAIN => some (.wrMixGain data)
  | .shadow .WAVEFORM => some (.wrWaveform data)
  | .voice v .V_PINC => some (.wrVPinc v data)
  | .voice v .V_PHASE => some (.wrVPhase v data)
  | .voice v .V_VCMD => voiceCommandOp v data
  | .ID | .CONFIG | .ERR_INFO | .ACTIVE_MASK | .ACTIVE_COUNT | .SAMPLE_COUNT | .MIX_OUT | .LAST_OUT | .X1 | .X2 | .Y1 | .Y2
  | .act _ | .voice _ .V_ENV | .voice _ .V_ELAPSED | .voice _ .V_START | .voice _ .V_WAVE => none

/-! ### The decoder (R97) -/

/-- The decoder of R97 on the fields of a transaction, for a block of `n` voices: the first test that holds decides. -/
def decodeFields (n : Nat) (w : BitVec 1) (addr : Addr) (data : Word) : Decoded :=
  if addrAlign addr ≠ 0#2 then .error .misaligned
  else if addrInVoiceHalf addr = true ∧ n ≤ (addrVoice addr).toNat then .error .noVoice
  else
    match regOf addr with
    | none => .error .unmapped
    | some r =>
      if w = 1#1 then
        if r.access = .ro then .error .roWrite
        else match writeOp r data with
          | some i => .op i
          | none => .error .badCommand
      else
        match readOp r with
        | some i => .op i
        | none => .error .woRead

/-- The decoder of a transaction word (R97). -/
def decodeTxn (n : Nat) (w : TxnWord) : Decoded := decodeFields n (txnW w) (txnAddr w) (txnData w)

/-- What a port's word is to a block of `n` voices: a transaction word by R97; a strobe of 1 is TICK and a strobe of 0 is no event
(R96). -/
def decode (n : Nat) : PortWord → Decoded
  | .txn w => decodeTxn n w
  | .strobe b => if b = 1#1 then .op .tick else .noEvent

/-! ### The encoder (R98) -/

/-- A transaction on the bus port. -/
def txn (w : BitVec 1) (addr : Addr) (data : Word) : PortWord := .txn (txnWord w addr data)

/-- The word of an instruction (R98). A read's DATA is written 0; any value selects the same read (R93). -/
def encode : Instr → PortWord
  | .rdId => txn 0 0x000 0
  | .rdConfig => txn 0 0x004 0
  | .rdCtrl => txn 0 0x008 0
  | .wrCtrl data => txn 1 0x008 data
  | .rdStatus => txn 0 0x00C 0
  | .wrStatus data => txn 1 0x00C data
  | .rdIrqEn => txn 0 0x010 0
  | .wrIrqEn data => txn 1 0x010 data
  | .commit => txn 1 0x014 0x00000001
  | .filterClear => txn 1 0x014 0x00000002
  | .softReset => txn 1 0x014 0x00000003
  | .rdErrInfo => txn 0 0x018 0
  | .rdIdleEvents => txn 0 0x01C 0
  | .wrIdleEvents data => txn 1 0x01C data
  | .rdActiveMask => txn 0 0x020 0
  | .rdActiveCount => txn 0 0x024 0
  | .rdSampleCount => txn 0 0x028 0
  | .rdMixOut => txn 0 0x02C 0
  | .rdLastOut => txn 0 0x030 0
  | .wrB0 data => txn 1 0x040 data
  | .wrB1 data => txn 1 0x044 data
  | .wrB2 data => txn 1 0x048 data
  | .wrA1 data => txn 1 0x04C data
  | .wrA2 data => txn 1 0x050 data
  | .wrAttack data => txn 1 0x054 data
  | .wrDecay data => txn 1 0x058 data
  | .wrRelease data => txn 1 0x05C data
  | .wrSustain data => txn 1 0x060 data
  | .wrMixGain data => txn 1 0x064 data
  | .wrWaveform data => txn 1 0x068 data
  | .rdB0 => txn 0 0x040 0
  | .rdB1 => txn 0 0x044 0
  | .rdB2 => txn 0 0x048 0
  | .rdA1 => txn 0 0x04C 0
  | .rdA2 => txn 0 0x050 0
  | .rdAttack => txn 0 0x054 0
  | .rdDecay => txn 0 0x058 0
  | .rdRelease => txn 0 0x05C 0
  | .rdSustain => txn 0 0x060 0
  | .rdMixGain => txn 0 0x064 0
  | .rdWaveform => txn 0 0x068 0
  | .rdX1 => txn 0 0x080 0
  | .rdX2 => txn 0 0x084 0
  | .rdY1 => txn 0 0x088 0
  | .rdY2 => txn 0 0x08C 0
  | .rdActB0 => txn 0 0x0C0 0
  | .rdActB1 => txn 0 0x0C4 0
  | .rdActB2 => txn 0 0x0C8 0
  | .rdActA1 => txn 0 0x0CC 0
  | .rdActA2 => txn 0 0x0D0 0
  | .rdActAttack => txn 0 0x0D4 0
  | .rdActDecay => txn 0 0x0D8 0
  | .rdActRelease => txn 0 0x0DC 0
  | .rdActSustain => txn 0 0x0E0 0
  | .rdActMixGain => txn 0 0x0E4 0
  | .rdActWaveform => txn 0 0x0E8 0
  | .wrVPinc v data => txn 1 (voiceAddr v 0x00) data
  | .rdVPinc v => txn 0 (voiceAddr v 0x00) 0
  | .wrVPhase v data => txn 1 (voiceAddr v 0x04) data
  | .rdVPhase v => txn 0 (voiceAddr v 0x04) 0
  | .gateOn v => txn 1 (voiceAddr v 0x08) 0x00000001
  | .gateOff v => txn 1 (voiceAddr v 0x08) 0x00000002
  | .rdVEnv v => txn 0 (voiceAddr v 0x0C) 0
  | .rdVElapsed v => txn 0 (voiceAddr v 0x10) 0
  | .rdVStart v => txn 0 (voiceAddr v 0x14) 0
  | .rdVWave v => txn 0 (voiceAddr v 0x18) 0
  | .tick => .strobe 1

/-! ### The opcode table's numbering -/

/-- The port word whose bits are `w`, numbered as spec/opcode_table.json numbers them, when the table gives the row `nbits` bits:
a row of one byte is the tick strobe (R96), any other row a 43-bit transaction word (R90). Bits of `w` beyond the port's width
are no wires of the port (log entry 13). -/
def portWordOfTable (nbits w : Nat) : PortWord :=
  if nbits ≤ 8 then .strobe (BitVec.ofNat 1 w) else .txn (BitVec.ofNat 43 w)

/-- The instruction the decoder reads from the word `w` of `nbits` bits, with the default number of voices (R8). -/
def decodeTableWord (nbits w : Nat) : Option Instr :=
  match decode Config.standard.n (portWordOfTable nbits w) with
  | .op i => some i
  | .error _ => none
  | .noEvent => none

end Sys2Proof
end

