-- ==== Sys2Proof/Machine/State.lean ====
section
/-! DEFINITION. The architectural state of TFG-DSP (10_state.md R20 to R39), its reset value (70_reset_and_hazards.md R330), and
the model's own fields: the parameters of the build (R8), the level of the `rst` input (R330), the schedule of what the agents
present (R7, R80), and what the block has put on its response port (R90) and its sample port (R295). State is plain data. -/

namespace Sys2Proof.Machine

/-- The envelope phase `ph` (R22). Its codes are `phaseCode` (Machine/Operands.lean). -/
inductive EnvPhase where
  | Idle | Attack | Decay | Sustain | Release
deriving DecidableEq, Repr

/-- One voice of the voice file (R20, R21). -/
structure Voice where
  /-- The envelope phase (R22). -/
  ph : EnvPhase
  /-- The envelope level, 0 to 0x8000 (R23). -/
  L : Level
  /-- The level at which the current segment started (R24). -/
  S : Level
  /-- The elapsed time in the current phase, in ticks (R25). -/
  k : Ticks
  /-- The oscillator phase accumulator (R26). -/
  phase : BitVec 32
  /-- The phase increment (R27). -/
  pinc : BitVec 32
  /-- The latched waveform kind: 0 sine, 1 square, 2 triangle, 3 sawtooth (R28). -/
  wave : BitVec 2
deriving DecidableEq, Repr

/-- One parameter set (R20, R29). -/
structure ParamSet where
  B0 : Word
  B1 : Word
  B2 : Word
  A1 : Word
  A2 : Word
  ATTACK : Ticks
  DECAY : Ticks
  RELEASE : Ticks
  SUSTAIN : Level
  MIX_GAIN : BitVec 16
  WAVEFORM : BitVec 2
deriving DecidableEq, Repr

/-- The error record (R36). -/
structure ErrInfo where
  CODE : BitVec 4
  ADDR : Addr
  W : BitVec 1
deriving DecidableEq, Repr

/-- The status of a response (R90). -/
inductive Resp where
  | ok | err
deriving DecidableEq, Repr

/-- One response of the block to a transaction: {RESP, RDATA} (R90). -/
structure Response where
  resp : Resp
  rdata : Word
deriving DecidableEq, Repr

/-- One thing an agent does to the block (R7). A schedule of them is one interleaving of the host's transactions, the tick source's
events and the `rst` input (R80). -/
inductive Event where
  /-- The host presents a transaction word, or the tick source its strobe. -/
  | port (p : PortWord)
  /-- The `rst` input takes the level given (R330). -/
  | rst (level : Bool)
  /-- A TICK arrives while another TICK is being computed (R345, 93_implementation_defined.md I2). -/
  | tickOverrun
deriving DecidableEq, Repr

/-- The machine's state. The fields down to `LAST_OUT` are the tuple of R20; N is the length of `voice` (R21). The fields after it
are the model's own (log entries 1 to 6). -/
structure State where
  /-- The voice file, voice 0 first (R21). -/
  voice : List Voice
  /-- The shadow parameter set (R29). -/
  shadow : ParamSet
  /-- The active parameter set (R30). -/
  active : ParamSet
  /-- A shadow field was written since the last COMMIT or reset (R31). -/
  PENDING : Bool
  /-- The filter input of the last TICK (R32). -/
  x1 : Sample
  /-- The filter input of the TICK before it (R32). -/
  x2 : Sample
  /-- The filter output of the last TICK (R32). -/
  y1 : Sample
  /-- The filter output of the TICK before it (R32). -/
  y2 : Sample
  /-- CTRL[0] (R33). -/
  FILTER_EN : Bool
  /-- IRQ_EN[0] (R34). -/
  IDLE_IE : Bool
  /-- IRQ_EN[1] (R34). -/
  ERR_IE : Bool
  /-- IRQ_EN[2] (R34). -/
  CLIP_IE : Bool
  /-- STATUS[0] (R35). -/
  ERR : Bool
  /-- STATUS[1] (R35). -/
  CLIP_MIX : Bool
  /-- STATUS[2] (R35). -/
  CLIP_FILT : Bool
  /-- The error record (R36). -/
  ERR_INFO : ErrInfo
  /-- One bit per voice (R37): bits N to 15 are 0 in every state a run reaches (log entry 9). -/
  IDLE_EVENTS : BitVec 16
  /-- The count of TICKs since reset, modulo 2^32 (R38). -/
  SAMPLE_COUNT : BitVec 32
  /-- The mixer sample of the last TICK (R39). -/
  MIX_OUT : Sample
  /-- The sample emitted by the last TICK (R39), which is the output port's last value (R44). -/
  LAST_OUT : Sample
  /-- MODEL: the parameter SINE_LUT of the build (R8, R262). No step writes it. -/
  sineLut : SineTable
  /-- MODEL: the level of the input `rst` (R330). -/
  rst : Bool
  /-- MODEL: the schedule, what the agents present next, first event first (R7, R80). -/
  inputs : List Event
  /-- MODEL: the responses given, oldest first (R90, R91). -/
  responses : List Response
  /-- MODEL: the samples emitted, oldest first: the output port as R295 gives it to a model. -/
  samples : List Sample
deriving DecidableEq, Repr

/-- Why the machine stops with a fault. -/
inductive Fault where
  /-- Raised by the event `tickOverrun`: the tick source broke its spacing duty, and the spec does not define the effect
  (R345; 93_implementation_defined.md I2, treatment 'fault'). SAFE: the model stops where the hardware goes on somehow. -/
  | tickOverrun
deriving DecidableEq, Repr

/-- Why the machine refuses an instruction. -/
inductive Refusal where
  /-- Raised by `exec` for an operation that has no meaning yet. No arm of `exec` raises it: every operation has its meaning. SAFE. -/
  | notModelled (mnemonic : String)
deriving DecidableEq, Repr

/-- What a meaning and a step answer. -/
abbrev Answer := Host.Outcome State Fault Refusal

/-- N, the number of voices: the voice file has exactly N (R21). -/
def State.n (s : State) : Nat := s.voice.length

/-- A voice after reset (R330). -/
def Voice.reset : Voice := { ph := .Idle, L := 0, S := 0, k := 0, phase := 0, pinc := 0, wave := 0 }

/-- Both parameter sets after reset in a block of `n` voices (R29, R330). -/
def ParamSet.reset (n : Nat) : ParamSet :=
  { B0 := 0x40000000#32, B1 := 0, B2 := 0, A1 := 0, A2 := 0, ATTACK := 0, DECAY := 0, RELEASE := 0,
    SUSTAIN := 0x8000#16, MIX_GAIN := BitVec.ofNat 16 (0x8000 / n), WAVEFORM := 0 }

/-- The state right after reset (R330) of a block with the parameters `c`, with nothing scheduled and nothing on its ports. -/
def State.resetOf (c : Config) : State :=
  { voice := List.replicate c.n Voice.reset
    shadow := ParamSet.reset c.n
    active := ParamSet.reset c.n
    PENDING := false
    x1 := 0, x2 := 0, y1 := 0, y2 := 0
    FILTER_EN := false
    IDLE_IE := false, ERR_IE := false, CLIP_IE := false
    ERR := false, CLIP_MIX := false, CLIP_FILT := false
    ERR_INFO := { CODE := 0, ADDR := 0, W := 0 }
    IDLE_EVENTS := 0
    SAMPLE_COUNT := 0
    MIX_OUT := 0, LAST_OUT := 0
    sineLut := c.sineLut
    rst := false
    inputs := [], responses := [], samples := [] }

/-- The machine right after reset, with the default parameters of R8: N = 8 and the default sine table. -/
def State.reset : State := State.resetOf Config.standard

end Sys2Proof.Machine
end

