-- ==== Sys2Proof/Machine/Ops.lean ====
section
/-! DEFINITION. The shared operations: exact integer operators (00_scope.md R13), responses (30_encoding.md R90), the error
response (60_exceptions.md R302, R303: this block's only exception, which has no trap entry and no return, R307), reset
(70_reset_and_hazards.md R330, R332), and the updates of a voice and of the shadow set. -/

namespace Sys2Proof.Machine

/-! ### Integer operators (R13) -/

/-- `a >>a s`, the arithmetic shift right: floor(a / 2^s). -/
def sra (a : Int) (s : Nat) : Int := a / (2 ^ s : Int)

/-- `tdiv(a, b)`, division truncated toward zero. -/
def tdiv (a b : Int) : Int := Int.tdiv a b

/-- `clamp(v, lo, hi)`. -/
def clamp (v lo hi : Int) : Int := min (max v lo) hi

/-- `sat16(v)`. -/
def sat16 (v : Int) : Int := clamp v (-32768) 32767

/-- `popcount(m)` of a 16-bit mask: the number of one bits. -/
def popcount (m : BitVec 16) : Nat := ((List.range 16).filter (fun i => m.getLsbD i)).length

/-- The mask whose bit v is the v-th flag of a list: Σ over v with flag v of 2^v. -/
def bitMask : List Bool → BitVec 16
  | [] => 0#16
  | b :: bs => (bitMask bs <<< 1) ||| (BitVec.ofBool b).setWidth 16

/-! ### Responses (R90, R120) -/

/-- `respond(resp, rdata)`: one response on the response port. -/
def respond (resp : Resp) (rdata : Word) (s : State) : State :=
  { s with responses := s.responses ++ [{ resp := resp, rdata := rdata }] }

/-- `respond(OK, rdata)` ends a transaction. -/
def respondOk (rdata : Word) (s : State) : Answer := .next (respond .ok rdata s)

/-- A write operation's end: `respond(OK, 0)` (R120). -/
def writeDone (s : State) : Answer := respondOk 0#32 s

/-! ### The error response (R300, R302, R303) -/

/-- The value of ERR_INFO.CODE for an error (R300). -/
def errorCode : BusError → BitVec 4
  | .misaligned => 1
  | .unmapped => 2
  | .noVoice => 3
  | .roWrite => 4
  | .woRead => 5
  | .badCommand => 6

/-- `raise BusError(c)` for a transaction (W, ADDR): the record is written only while ERR is 0, then ERR is set, and the response is
ERR with RDATA 0 (R302, R303). -/
def raiseBusError (c : BusError) (w : BitVec 1) (addr : Addr) (s : State) : State :=
  respond .err 0#32
    { s with
      ERR_INFO := if s.ERR then s.ERR_INFO else { CODE := errorCode c, ADDR := addr, W := w }
      ERR := true }

/-! ### Reset (R330, R332) -/

/-- The parameters of the build this state is of: reset does not change them (R330). -/
def configOf (s : State) : Config := { n := s.n, sineLut := s.sineLut }

/-- Every field of R20 at its reset value (R330). The parameters, the `rst` input, the schedule and the record of what the ports
carried are no state of R20, and stay (log entry 6). -/
def resetState (s : State) : State :=
  { State.resetOf (configOf s) with
    rst := s.rst, inputs := s.inputs, responses := s.responses, samples := s.samples }

/-- The `rst` input takes a level (R330, R331): while it is 1 no state survives, and when it falls the state is the reset state. A
level the input already has at 0 is no event. -/
def setRst (level : Bool) (s : State) : State :=
  if level || s.rst then { resetState s with rst := level } else s

/-! ### The voice file (R21) and the shadow set (R161) -/

/-- Voice `v` becomes `x`. -/
def setVoice (v : BitVec 4) (x : Voice) (s : State) : State := { s with voice := s.voice.set v.toNat x }

/-- A voice operation with W bit `w` at offset `off` of voice `v`'s window: `f` of the voice, or the error NO_VOICE if v ≥ N (R200,
R201 'Errors: NO_VOICE if v ≥ N'). The decoder gives no operation with v ≥ N (R97). -/
def withVoice (v : BitVec 4) (w : BitVec 1) (off : Addr) (s : State) (f : Voice → Answer) : Answer :=
  match s.voice[v.toNat]? with
  | some x => f x
  | none => .next (raiseBusError .noVoice w (voiceAddr v off) s)

/-- A write of a shadow field: the set `p` with the field stored, and PENDING (R161). -/
def setShadow (p : ParamSet) (s : State) : State := { s with shadow := p, PENDING := true }

/-- `emit(out)`: one sample on the output port (R295). -/
def emit (out : Sample) (s : State) : State := { s with samples := s.samples ++ [out] }

end Sys2Proof.Machine
end

