-- ==== Sys2Proof/Machine/Operands.lean ====
section
/-! DEFINITION. Operand forms: the legalised value a register stores of DATA (30_encoding.md R93, 10_state.md R29) and the register
image a read answers (R94, R46). -/

namespace Sys2Proof.Machine

/-! ### What a write stores (R29) -/

/-- DATA[23:0], a duration (R167 to R169): DATA[31:24] is dropped. -/
def storedTicks (data : Word) : Ticks := data.extractLsb' 0 24

/-- min(DATA[15:0], 0x8000), the sustain level (R170). -/
def storedSustain (data : Word) : Level :=
  let d := data.extractLsb' 0 16
  if d.toNat ≤ 0x8000 then d else 0x8000#16

/-- DATA[15:0], the mixer's gain (R171). -/
def storedGain (data : Word) : BitVec 16 := data.extractLsb' 0 16

/-- DATA[1:0], a waveform kind (R172). -/
def storedWaveform (data : Word) : BitVec 2 := data.extractLsb' 0 2

/-! ### What a read answers (R94) -/

/-- `zext_N(v)`: the new bits are 0 (R11). -/
def zext {w : Nat} (v : BitVec w) : Word := v.setWidth 32

/-- `sext_16(v)`: bit 15 is copied into the new bits (R11). -/
def sext16 (v : Sample) : Word := v.signExtend 32

/-- A flag as a 1-bit field. -/
def flagBit (b : Bool) : BitVec 1 := BitVec.ofBool b

/-- The code of an envelope phase (R22). -/
def phaseCode : EnvPhase → BitVec 3
  | .Idle => 0
  | .Attack => 1
  | .Decay => 2
  | .Sustain => 3
  | .Release => 4

/-- The ID register (R41). -/
def idImage : Word := 0x54464731#32

/-- The CONFIG register: zext_5(N) (R41). -/
def configImage (s : State) : Word := zext (BitVec.ofNat 5 s.n)

/-- The ERR_INFO register: {W, 5'b0, ADDR, 12'b0, CODE} (R46, R134). -/
def errInfoImage (e : ErrInfo) : Word := e.W ++ 0#5 ++ e.ADDR ++ 0#12 ++ e.CODE

/-- The IRQ_EN register: {29'b0, CLIP_IE, ERR_IE, IDLE_IE} (R46, R128). -/
def irqEnImage (s : State) : Word := 0#29 ++ flagBit s.CLIP_IE ++ flagBit s.ERR_IE ++ flagBit s.IDLE_IE

/-- The V_ENV register of a voice: {L, 13'b0, code of ph} (R46, R208). -/
def envImage (x : Voice) : Word := x.L ++ 0#13 ++ phaseCode x.ph

end Sys2Proof.Machine
end

