-- ==== Sys2Proof/Machine/Flags.lean ====
section
/-! DEFINITION. The status flags (10_state.md R31, R35), their write-1-to-clear (40_bus_global.md R127, R136), the derived values
(R40) and the interrupt line (60_exceptions.md R310). -/

namespace Sys2Proof.Machine

/-- The STATUS register: {28'b0, PENDING, CLIP_FILT, CLIP_MIX, ERR} (R46, R126). -/
def statusImage (s : State) : Word :=
  0#28 ++ flagBit s.PENDING ++ flagBit s.CLIP_FILT ++ flagBit s.CLIP_MIX ++ flagBit s.ERR

/-- A flag under a write-1-to-clear bit: writing 1 clears it, writing 0 leaves it (R127). -/
def w1c (bit flag : Bool) : Bool := !bit && flag

/-- A sticky flag after a stage that may set it: it is only ever set (R230, R276, R292). -/
def stick (flag set : Bool) : Bool := flag || set

/-- The W1C of STATUS: DATA[0] ERR, DATA[1] CLIP_MIX, DATA[2] CLIP_FILT; PENDING and DATA[31:3] are ignored (R127). -/
def clearStatus (data : Word) (s : State) : State :=
  { s with
    ERR := w1c (data.getLsbD 0) s.ERR
    CLIP_MIX := w1c (data.getLsbD 1) s.CLIP_MIX
    CLIP_FILT := w1c (data.getLsbD 2) s.CLIP_FILT }

/-- The bits 0 to N-1, those of the voices there are. -/
def voiceBits (n : Nat) : BitVec 16 := bitMask (List.replicate n true)

/-- The W1C of IDLE_EVENTS: bit v < N is cleared by DATA[v] = 1; DATA bits at N and above are ignored (R136). -/
def clearIdleEvents (data : Word) (s : State) : State :=
  { s with IDLE_EVENTS := s.IDLE_EVENTS &&& ~~~ (data.extractLsb' 0 16 &&& voiceBits s.n) }

/-- A voice is active when its envelope phase is not Idle (R16). -/
def isActive (x : Voice) : Bool := decide (x.ph ≠ .Idle)

/-- ACTIVE_MASK (R40). -/
def activeMask (s : State) : BitVec 16 := bitMask (s.voice.map isActive)

/-- ACTIVE_COUNT (R40). -/
def activeCount (s : State) : Nat := popcount (activeMask s)

/-- IRQ (R40, R310). -/
def irq (s : State) : Bool :=
  (s.IDLE_IE && decide (s.IDLE_EVENTS ≠ 0#16)) || (s.ERR_IE && s.ERR) || (s.CLIP_IE && (s.CLIP_MIX || s.CLIP_FILT))

/-- The output `irq`: the level of R310, and 0 while `rst` is 1 (R330). -/
def irqLine (s : State) : Bool := !s.rst && irq s

end Sys2Proof.Machine
end

