-- ==== Sys2Proof/Machine/Global.lean ====
section
/-! DEFINITION. The global control, status and command operations (40_bus_global.md R120 to R145). A read answers its register's
image and changes nothing else (R120, 20_memory.md R76). -/

namespace Sys2Proof.Machine

/-! ### Identity, configuration and control -/

/-- RD_ID (R122). -/
def execRdId (s : State) : Answer := respondOk idImage s

/-- RD_CONFIG (R123). -/
def execRdConfig (s : State) : Answer := respondOk (configImage s) s

/-- RD_CTRL (R124). -/
def execRdCtrl (s : State) : Answer := respondOk (zext (flagBit s.FILTER_EN)) s

/-- WR_CTRL: FILTER_EN takes DATA[0]; DATA[31:1] are ignored (R125). -/
def execWrCtrl (data : Word) (s : State) : Answer := writeDone { s with FILTER_EN := data.getLsbD 0 }

/-! ### Status and interrupt enables -/

/-- RD_STATUS (R126). Reading clears nothing. -/
def execRdStatus (s : State) : Answer := respondOk (statusImage s) s

/-- WR_STATUS, W1C (R127). -/
def execWrStatus (data : Word) (s : State) : Answer := writeDone (clearStatus data s)

/-- RD_IRQ_EN (R128). -/
def execRdIrqEn (s : State) : Answer := respondOk (irqEnImage s) s

/-- WR_IRQ_EN: DATA[31:3] are ignored (R129). -/
def execWrIrqEn (data : Word) (s : State) : Answer :=
  writeDone { s with IDLE_IE := data.getLsbD 0, ERR_IE := data.getLsbD 1, CLIP_IE := data.getLsbD 2 }

/-! ### Commands of the COMMAND register (R130) -/

/-- FILTER_CLEAR: zero history, nothing else (R131). -/
def execFilterClear (s : State) : Answer := writeDone { s with x1 := 0, x2 := 0, y1 := 0, y2 := 0 }

/-- SOFT_RESET: the reset state of R330 as one step, and an OK response of its own (R132, R332). -/
def execSoftReset (s : State) : Answer := writeDone (resetState s)

/-! ### Error record, events, activity and counters -/

/-- RD_ERR_INFO (R134). -/
def execRdErrInfo (s : State) : Answer := respondOk (errInfoImage s.ERR_INFO) s

/-- RD_IDLE_EVENTS (R135). Reading clears nothing. -/
def execRdIdleEvents (s : State) : Answer := respondOk (zext s.IDLE_EVENTS) s

/-- WR_IDLE_EVENTS, W1C (R136). -/
def execWrIdleEvents (data : Word) (s : State) : Answer := writeDone (clearIdleEvents data s)

/-- RD_ACTIVE_MASK (R137). -/
def execRdActiveMask (s : State) : Answer := respondOk (zext (activeMask s)) s

/-- RD_ACTIVE_COUNT (R138). -/
def execRdActiveCount (s : State) : Answer := respondOk (zext (BitVec.ofNat 5 (activeCount s))) s

/-- RD_SAMPLE_COUNT (R139). -/
def execRdSampleCount (s : State) : Answer := respondOk s.SAMPLE_COUNT s

/-- RD_MIX_OUT (R140). -/
def execRdMixOut (s : State) : Answer := respondOk (sext16 s.MIX_OUT) s

/-- RD_LAST_OUT (R141). -/
def execRdLastOut (s : State) : Answer := respondOk (sext16 s.LAST_OUT) s

/-! ### Filter history readback -/

/-- RD_X1 (R142). -/
def execRdX1 (s : State) : Answer := respondOk (sext16 s.x1) s

/-- RD_X2 (R143). -/
def execRdX2 (s : State) : Answer := respondOk (sext16 s.x2) s

/-- RD_Y1 (R144). -/
def execRdY1 (s : State) : Answer := respondOk (sext16 s.y1) s

/-- RD_Y2 (R145). -/
def execRdY2 (s : State) : Answer := respondOk (sext16 s.y2) s

end Sys2Proof.Machine
end

