-- ==== Sys2Proof/Machine/Params.lean ====
section
/-! DEFINITION. COMMIT and the operations on the parameter sets (41_parameters.md R160 to R194). A shadow write stores the legalised
DATA and sets PENDING (R161): it never changes the active set. -/

namespace Sys2Proof.Machine

/-- COMMIT: the active set becomes the shadow set, all eleven fields at once, and PENDING is cleared (R160). -/
def execCommit (s : State) : Answer := writeDone { s with active := s.shadow, PENDING := false }

/-! ### Shadow writes -/

/-- WR_B0 (R162). -/
def execWrB0 (data : Word) (s : State) : Answer :=
  writeDone (setShadow { s.shadow with B0 := data } s)

/-- WR_B1 (R163). -/
def execWrB1 (data : Word) (s : State) : Answer :=
  writeDone (setShadow { s.shadow with B1 := data } s)

/-- WR_B2 (R164). -/
def execWrB2 (data : Word) (s : State) : Answer :=
  writeDone (setShadow { s.shadow with B2 := data } s)

/-- WR_A1 (R165). -/
def execWrA1 (data : Word) (s : State) : Answer :=
  writeDone (setShadow { s.shadow with A1 := data } s)

/-- WR_A2 (R166). -/
def execWrA2 (data : Word) (s : State) : Answer :=
  writeDone (setShadow { s.shadow with A2 := data } s)

/-- WR_ATTACK (R167). -/
def execWrAttack (data : Word) (s : State) : Answer :=
  writeDone (setShadow { s.shadow with ATTACK := storedTicks data } s)

/-- WR_DECAY (R168). -/
def execWrDecay (data : Word) (s : State) : Answer :=
  writeDone (setShadow { s.shadow with DECAY := storedTicks data } s)

/-- WR_RELEASE (R169). -/
def execWrRelease (data : Word) (s : State) : Answer :=
  writeDone (setShadow { s.shadow with RELEASE := storedTicks data } s)

/-- WR_SUSTAIN (R170). -/
def execWrSustain (data : Word) (s : State) : Answer :=
  writeDone (setShadow { s.shadow with SUSTAIN := storedSustain data } s)

/-- WR_MIX_GAIN (R171). -/
def execWrMixGain (data : Word) (s : State) : Answer :=
  writeDone (setShadow { s.shadow with MIX_GAIN := storedGain data } s)

/-- WR_WAVEFORM (R172). -/
def execWrWaveform (data : Word) (s : State) : Answer :=
  writeDone (setShadow { s.shadow with WAVEFORM := storedWaveform data } s)

/-! ### Shadow reads -/

/-- RD_B0 (R173). -/
def execRdB0 (s : State) : Answer := respondOk s.shadow.B0 s

/-- RD_B1 (R174). -/
def execRdB1 (s : State) : Answer := respondOk s.shadow.B1 s

/-- RD_B2 (R175). -/
def execRdB2 (s : State) : Answer := respondOk s.shadow.B2 s

/-- RD_A1 (R176). -/
def execRdA1 (s : State) : Answer := respondOk s.shadow.A1 s

/-- RD_A2 (R177). -/
def execRdA2 (s : State) : Answer := respondOk s.shadow.A2 s

/-- RD_ATTACK (R178). -/
def execRdAttack (s : State) : Answer := respondOk (zext s.shadow.ATTACK) s

/-- RD_DECAY (R179). -/
def execRdDecay (s : State) : Answer := respondOk (zext s.shadow.DECAY) s

/-- RD_RELEASE (R180). -/
def execRdRelease (s : State) : Answer := respondOk (zext s.shadow.RELEASE) s

/-- RD_SUSTAIN (R181). -/
def execRdSustain (s : State) : Answer := respondOk (zext s.shadow.SUSTAIN) s

/-- RD_MIX_GAIN (R182). -/
def execRdMixGain (s : State) : Answer := respondOk (zext s.shadow.MIX_GAIN) s

/-- RD_WAVEFORM (R183). -/
def execRdWaveform (s : State) : Answer := respondOk (zext s.shadow.WAVEFORM) s

/-! ### Active-set reads -/

/-- RD_ACT_B0 (R184). -/
def execRdActB0 (s : State) : Answer := respondOk s.active.B0 s

/-- RD_ACT_B1 (R185). -/
def execRdActB1 (s : State) : Answer := respondOk s.active.B1 s

/-- RD_ACT_B2 (R186). -/
def execRdActB2 (s : State) : Answer := respondOk s.active.B2 s

/-- RD_ACT_A1 (R187). -/
def execRdActA1 (s : State) : Answer := respondOk s.active.A1 s

/-- RD_ACT_A2 (R188). -/
def execRdActA2 (s : State) : Answer := respondOk s.active.A2 s

/-- RD_ACT_ATTACK (R189). -/
def execRdActAttack (s : State) : Answer := respondOk (zext s.active.ATTACK) s

/-- RD_ACT_DECAY (R190). -/
def execRdActDecay (s : State) : Answer := respondOk (zext s.active.DECAY) s

/-- RD_ACT_RELEASE (R191). -/
def execRdActRelease (s : State) : Answer := respondOk (zext s.active.RELEASE) s

/-- RD_ACT_SUSTAIN (R192). -/
def execRdActSustain (s : State) : Answer := respondOk (zext s.active.SUSTAIN) s

/-- RD_ACT_MIX_GAIN (R193). -/
def execRdActMixGain (s : State) : Answer := respondOk (zext s.active.MIX_GAIN) s

/-- RD_ACT_WAVEFORM (R194). -/
def execRdActWaveform (s : State) : Answer := respondOk (zext s.active.WAVEFORM) s

end Sys2Proof.Machine
end

