-- ==== Sys2Proof/Machine/Envelope.lean ====
section
/-! DEFINITION. The ADSR envelope generator (44_envelope.md R240 to R249): the step EnvStep that a TICK runs once for each active
voice. Targets and durations are read from the tick's snapshot on every step (R244, R249). -/

namespace Sys2Proof.Machine

/-- 1.0 as a level. -/
def levelOne : Level := 0x8000#16

/-- The level at elapsed count `k` of a ramp from `S` to `T` over `D` ticks: S + tdiv((T - S)·k, D) (R242). -/
def rampLevel (S T : Level) (k D : Nat) : Level :=
  BitVec.ofInt 16 ((S.toNat : Int) + tdiv (((T.toNat : Int) - (S.toNat : Int)) * (k : Int)) (D : Int))

/-- A voice that enters Sustain at level `T`: S takes the level and k is 0 (R244). -/
def enterSustain (T : Level) (x : Voice) : Voice := { x with L := T, ph := .Sustain, S := T, k := 0 }

/-- A voice whose Attack completes: into Decay at 1.0, and on through a Decay of duration 0 in the same tick (R246). -/
def attackDone (P : ParamSet) (x : Voice) : Voice :=
  if P.DECAY = 0 then enterSustain P.SUSTAIN x
  else { x with L := levelOne, ph := .Decay, S := levelOne, k := 0 }

/-- A voice whose Release completes (R247). -/
def releaseDone (x : Voice) : Voice := { x with L := 0, ph := .Idle, S := 0, k := 0 }

/-- One step of a ramp phase with target `T` and duration `D` (R241): the count advances first; below `D` the level is on the line
(R242), from `D` on the segment completes (R243), as `complete` says. -/
def rampStep (T : Level) (D : Ticks) (complete : Voice → Voice) (x : Voice) : Voice :=
  let k := x.k.toNat + 1
  if k < D.toNat then { x with k := BitVec.ofNat 24 k, L := rampLevel x.S T k D.toNat } else complete x

/-- The elapsed count in Sustain: min(k + 1, 2^24 - 1) (R245). -/
def sustainCount (k : Ticks) : Ticks := BitVec.ofNat 24 (min (k.toNat + 1) (2 ^ 24 - 1))

/-- EnvStep on one voice with the tick's snapshot (R240 to R247). Idle has no step. -/
def envStep (P : ParamSet) (x : Voice) : Voice :=
  match x.ph with
  | .Idle => x
  | .Attack => rampStep levelOne P.ATTACK (attackDone P) x
  | .Decay => rampStep P.SUSTAIN P.DECAY (enterSustain P.SUSTAIN) x
  | .Sustain => { x with k := sustainCount x.k, L := P.SUSTAIN }
  | .Release => rampStep 0#16 P.RELEASE releaseDone x

/-- The voice's Release completes in this step: the step signals IDLE_EVENTS[v] (R247). -/
def releaseCompletes (P : ParamSet) (x : Voice) : Bool :=
  decide (x.ph = .Release) && decide (P.RELEASE.toNat ≤ x.k.toNat + 1)

end Sys2Proof.Machine
end

