-- ==== Sys2Proof/Machine/Filter.lean ====
section
/-! DEFINITION. The biquad filter (46_filter.md R275 to R279): the exact sum, rounding, saturation and the history. It runs on every
TICK, whatever FILTER_EN is (R279). -/

namespace Sys2Proof.Machine

/-- The exact sum b0·x0 + b1·x1 + b2·x2 - a1·y1 - a2·y2 (R275): coefficients s32, samples s16. -/
def biquadAcc (P : ParamSet) (x0 x1 x2 y1 y2 : Sample) : Int :=
  P.B0.toInt * x0.toInt + P.B1.toInt * x1.toInt + P.B2.toInt * x2.toInt - P.A1.toInt * y1.toInt - P.A2.toInt * y2.toInt

/-- r = (acc + 2^29) >>a 30: to nearest, ties toward plus infinity (R276). -/
def biquadRound (acc : Int) : Int := sra (acc + 2 ^ 29) 30

/-- The filter's rounded, unsaturated value for the input `m` in state `s` with the tick's snapshot (R275, R276). -/
def filterR (P : ParamSet) (m : Sample) (s : State) : Int := biquadRound (biquadAcc P m s.x1 s.x2 s.y1 s.y2)

/-- The filter output y = sat16(r) (R276). -/
def filterY (P : ParamSet) (m : Sample) (s : State) : Sample := BitVec.ofInt 16 (sat16 (filterR P m s))

/-- The saturation changed the value: this TICK sets CLIP_FILT (R276). -/
def filterClips (P : ParamSet) (m : Sample) (s : State) : Bool := decide (sat16 (filterR P m s) ≠ filterR P m s)

/-- The filter stage of a TICK: history (R277) and the sticky flag (R276). -/
def filterStage (P : ParamSet) (m : Sample) (s : State) : State :=
  { s with
    x2 := s.x1, x1 := m
    y2 := s.y1, y1 := filterY P m s
    CLIP_FILT := stick s.CLIP_FILT (filterClips P m s) }

end Sys2Proof.Machine
end

