-- ==== Sys2Proof/Machine/Mixer.lean ====
section
/-! DEFINITION. The mixer (47_mixer_output.md R290 to R292). -/

namespace Sys2Proof.Machine

/-- g = (acc · MIX_GAIN) >>a 15, the gain unsigned (R291). -/
def mixGain (P : ParamSet) (acc : Int) : Int := sra (acc * (P.MIX_GAIN.toNat : Int)) 15

/-- The mixer sample m = sat16(g) (R292). -/
def mixM (P : ParamSet) (acc : Int) : Sample := BitVec.ofInt 16 (sat16 (mixGain P acc))

/-- The clamp changed the value: this TICK sets CLIP_MIX (R292). -/
def mixClips (P : ParamSet) (acc : Int) : Bool := decide (sat16 (mixGain P acc) ≠ mixGain P acc)

/-- The mixer stage of a TICK: MIX_OUT and the sticky flag (R292). -/
def mixStage (P : ParamSet) (acc : Int) (s : State) : State :=
  { s with MIX_OUT := mixM P acc, CLIP_MIX := stick s.CLIP_MIX (mixClips P acc) }

end Sys2Proof.Machine
end

