-- ==== Sys2Proof/Machine/Oscillator.lean ====
section
/-! DEFINITION. The oscillator (45_oscillator.md R261 to R268): the waveform sampler, the voice sample and the phase advance. -/

namespace Sys2Proof.Machine

/-- Sine: SINE_LUT[p[31:22]], with no interpolation (R263). -/
def oscSine (t : SineTable) (p : BitVec 32) : Int := sineEntry t (p.extractLsb' 22 10).toNat

/-- Square: high for the first half-cycle (R264). -/
def oscSquare (p : BitVec 32) : Int := if p.getLsbD 31 then -32767 else 32767

/-- Triangle: 2·t - 32767 with t up, then down (R265). -/
def oscTriangle (p : BitVec 32) : Int :=
  let u := p.extractLsb' 16 16
  let t := if u.toNat < 0x8000 then u &&& 0x7FFF#16 else ~~~ u &&& 0x7FFF#16
  2 * (t.toNat : Int) - 32767

/-- Sawtooth: u - 32768 (R266). -/
def oscSaw (p : BitVec 32) : Int := ((p.extractLsb' 16 16).toNat : Int) - 32768

/-- Osc(wave, p): every code is defined (R267). -/
def osc (t : SineTable) (wave : BitVec 2) (p : BitVec 32) : Int :=
  if wave = 0#2 then oscSine t p
  else if wave = 1#2 then oscSquare p
  else if wave = 2#2 then oscTriangle p
  else oscSaw p

/-- VoiceSample(o, L) = (o · L) >>a 15 (R268). -/
def voiceSample (o : Int) (L : Level) : Int := sra (o * (L.toNat : Int)) 15

/-- The phase advance, modulo 2^32 (R261). -/
def advancePhase (x : Voice) : Voice := { x with phase := x.phase + x.pinc }

end Sys2Proof.Machine
end

