-- ==== Sys2Proof/Machine/Tick.lean ====
section
/-! DEFINITION. The TICK operation (43_tick.md R230 to R235): every active voice's step, the mix, the filter, the output. A voice's
update reads its own fields and the snapshot only, so the voices are processed independently (R232). -/

namespace Sys2Proof.Machine

/-- A voice after a TICK: EnvStep, then the phase advance; an Idle voice keeps every field (R230, R232). -/
def tickVoice (P : ParamSet) (x : Voice) : Voice :=
  if x.ph = .Idle then x else advancePhase (envStep P x)

/-- What a voice adds to the mixer's sum: the oscillator at the phase before the advance, scaled by the level after EnvStep; an Idle
voice adds nothing (R230, R232, R268). -/
def tickSample (t : SineTable) (P : ParamSet) (x : Voice) : Int :=
  if x.ph = .Idle then 0 else voiceSample (osc t x.wave x.phase) (envStep P x).L

/-- The exact sum over the voices (R290). -/
def mixSum (s : State) : Int := (s.voice.map (tickSample s.sineLut s.active)).sum

/-- The bits of IDLE_EVENTS this TICK sets: the voices whose Release completes (R247). -/
def tickIdleEvents (s : State) : BitVec 16 := bitMask (s.voice.map (releaseCompletes s.active))

/-- The voice stage of a TICK. -/
def voiceStage (s : State) : State :=
  { s with
    voice := s.voice.map (tickVoice s.active)
    IDLE_EVENTS := s.IDLE_EVENTS ||| tickIdleEvents s }

/-- The output stage: y if FILTER_EN, else m, counted and emitted exactly once (R231, R294, R295). -/
def outputStage (s : State) : State :=
  let out := if s.FILTER_EN then s.y1 else s.MIX_OUT
  emit out { s with LAST_OUT := out, SAMPLE_COUNT := s.SAMPLE_COUNT + 1 }

/-- The state after a TICK: the stages in the order of R230 and R293, all with the active set as it was at the start (R233). The
filter's input is m = MIX_OUT, and its output y stands in y1 when the output is selected. -/
def tickState (s : State) : State :=
  let P := s.active
  let mixed := mixStage P (mixSum s) (voiceStage s)
  outputStage (filterStage P mixed.MIX_OUT mixed)

/-- TICK (R230): no response, and no error (R306). -/
def execTick (s : State) : Answer := .next (tickState s)

end Sys2Proof.Machine
end

