-- ==== Sys2Proof/Machine/Voice.lean ====
section
/-! DEFINITION. The voice operations (42_voice_ops.md R200 to R211): they read or write voice `v` only, and GATE_ON also reads the
active WAVEFORM (R200). -/

namespace Sys2Proof.Machine

/-! ### Phase increment and phase -/

/-- WR_V_PINC (R201). -/
def execWrVPinc (v : BitVec 4) (data : Word) (s : State) : Answer :=
  withVoice v 1#1 0x00#10 s fun x => writeDone (setVoice v { x with pinc := data } s)

/-- RD_V_PINC (R202). -/
def execRdVPinc (v : BitVec 4) (s : State) : Answer :=
  withVoice v 0#1 0x00#10 s fun x => respondOk x.pinc s

/-- WR_V_PHASE (R203). -/
def execWrVPhase (v : BitVec 4) (data : Word) (s : State) : Answer :=
  withVoice v 1#1 0x04#10 s fun x => writeDone (setVoice v { x with phase := data } s)

/-- RD_V_PHASE (R204). -/
def execRdVPhase (v : BitVec 4) (s : State) : Answer :=
  withVoice v 0#1 0x04#10 s fun x => respondOk x.phase s

/-! ### Gate commands (R205) -/

/-- A voice after GATE_ON: Attack from its current level, with the waveform of the active set (R206). -/
def gateOnVoice (wave : BitVec 2) (x : Voice) : Voice :=
  { x with ph := .Attack, S := x.L, k := 0, wave := wave }

/-- A voice after GATE_OFF: Release from its current level, or, in Idle or Release, no change (R207). -/
def gateOffVoice (x : Voice) : Voice :=
  match x.ph with
  | .Attack | .Decay | .Sustain => { x with ph := .Release, S := x.L, k := 0 }
  | .Idle | .Release => x

/-- GATE_ON (R206). -/
def execGateOn (v : BitVec 4) (s : State) : Answer :=
  withVoice v 1#1 0x08#10 s fun x => writeDone (setVoice v (gateOnVoice s.active.WAVEFORM x) s)

/-- GATE_OFF (R207). -/
def execGateOff (v : BitVec 4) (s : State) : Answer :=
  withVoice v 1#1 0x08#10 s fun x => writeDone (setVoice v (gateOffVoice x) s)

/-! ### Envelope readback -/

/-- RD_V_ENV (R208). -/
def execRdVEnv (v : BitVec 4) (s : State) : Answer :=
  withVoice v 0#1 0x0C#10 s fun x => respondOk (envImage x) s

/-- RD_V_ELAPSED (R209). -/
def execRdVElapsed (v : BitVec 4) (s : State) : Answer :=
  withVoice v 0#1 0x10#10 s fun x => respondOk (zext x.k) s

/-- RD_V_START (R210). -/
def execRdVStart (v : BitVec 4) (s : State) : Answer :=
  withVoice v 0#1 0x14#10 s fun x => respondOk (zext x.S) s

/-- RD_V_WAVE (R211). -/
def execRdVWave (v : BitVec 4) (s : State) : Answer :=
  withVoice v 0#1 0x18#10 s fun x => respondOk (zext x.wave) s

end Sys2Proof.Machine
end

