-- ==== Sys2Proof/Machine/Dispatch.lean ====
section
/-! DEFINITION. One arm per operation, each a call of its meaning. -/

namespace Sys2Proof.Machine

def exec (i : Instr) (s : State) : Host.Outcome State Fault Refusal :=
  match i with
  | .rdId => Sys2Proof.Machine.execRdId s
  | .rdConfig => Sys2Proof.Machine.execRdConfig s
  | .rdCtrl => Sys2Proof.Machine.execRdCtrl s
  | .wrCtrl data => Sys2Proof.Machine.execWrCtrl data s
  | .rdStatus => Sys2Proof.Machine.execRdStatus s
  | .wrStatus data => Sys2Proof.Machine.execWrStatus data s
  | .rdIrqEn => Sys2Proof.Machine.execRdIrqEn s
  | .wrIrqEn data => Sys2Proof.Machine.execWrIrqEn data s
  | .commit => Sys2Proof.Machine.execCommit s
  | .filterClear => Sys2Proof.Machine.execFilterClear s
  | .softReset => Sys2Proof.Machine.execSoftReset s
  | .rdErrInfo => Sys2Proof.Machine.execRdErrInfo s
  | .rdIdleEvents => Sys2Proof.Machine.execRdIdleEvents s
  | .wrIdleEvents data => Sys2Proof.Machine.execWrIdleEvents data s
  | .rdActiveMask => Sys2Proof.Machine.execRdActiveMask s
  | .rdActiveCount => Sys2Proof.Machine.execRdActiveCount s
  | .rdSampleCount => Sys2Proof.Machine.execRdSampleCount s
  | .rdMixOut => Sys2Proof.Machine.execRdMixOut s
  | .rdLastOut => Sys2Proof.Machine.execRdLastOut s
  | .wrB0 data => Sys2Proof.Machine.execWrB0 data s
  | .wrB1 data => Sys2Proof.Machine.execWrB1 data s
  | .wrB2 data => Sys2Proof.Machine.execWrB2 data s
  | .wrA1 data => Sys2Proof.Machine.execWrA1 data s
  | .wrA2 data => Sys2Proof.Machine.execWrA2 data s
  | .wrAttack data => Sys2Proof.Machine.execWrAttack data s
  | .wrDecay data => Sys2Proof.Machine.execWrDecay data s
  | .wrRelease data => Sys2Proof.Machine.execWrRelease data s
  | .wrSustain data => Sys2Proof.Machine.execWrSustain data s
  | .wrMixGain data => Sys2Proof.Machine.execWrMixGain data s
  | .wrWaveform data => Sys2Proof.Machine.execWrWaveform data s
  | .rdB0 => Sys2Proof.Machine.execRdB0 s
  | .rdB1 => Sys2Proof.Machine.execRdB1 s
  | .rdB2 => Sys2Proof.Machine.execRdB2 s
  | .rdA1 => Sys2Proof.Machine.execRdA1 s
  | .rdA2 => Sys2Proof.Machine.execRdA2 s
  | .rdAttack => Sys2Proof.Machine.execRdAttack s
  | .rdDecay => Sys2Proof.Machine.execRdDecay s
  | .rdRelease => Sys2Proof.Machine.execRdRelease s
  | .rdSustain => Sys2Proof.Machine.execRdSustain s
  | .rdMixGain => Sys2Proof.Machine.execRdMixGain s
  | .rdWaveform => Sys2Proof.Machine.execRdWaveform s
  | .rdX1 => Sys2Proof.Machine.execRdX1 s
  | .rdX2 => Sys2Proof.Machine.execRdX2 s
  | .rdY1 => Sys2Proof.Machine.execRdY1 s
  | .rdY2 => Sys2Proof.Machine.execRdY2 s
  | .rdActB0 => Sys2Proof.Machine.execRdActB0 s
  | .rdActB1 => Sys2Proof.Machine.execRdActB1 s
  | .rdActB2 => Sys2Proof.Machine.execRdActB2 s
  | .rdActA1 => Sys2Proof.Machine.execRdActA1 s
  | .rdActA2 => Sys2Proof.Machine.execRdActA2 s
  | .rdActAttack => Sys2Proof.Machine.execRdActAttack s
  | .rdActDecay => Sys2Proof.Machine.execRdActDecay s
  | .rdActRelease => Sys2Proof.Machine.execRdActRelease s
  | .rdActSustain => Sys2Proof.Machine.execRdActSustain s
  | .rdActMixGain => Sys2Proof.Machine.execRdActMixGain s
  | .rdActWaveform => Sys2Proof.Machine.execRdActWaveform s
  | .wrVPinc v data => Sys2Proof.Machine.execWrVPinc v data s
  | .rdVPinc v => Sys2Proof.Machine.execRdVPinc v s
  | .wrVPhase v data => Sys2Proof.Machine.execWrVPhase v data s
  | .rdVPhase v => Sys2Proof.Machine.execRdVPhase v s
  | .gateOn v => Sys2Proof.Machine.execGateOn v s
  | .gateOff v => Sys2Proof.Machine.execGateOff v s
  | .rdVEnv v => Sys2Proof.Machine.execRdVEnv v s
  | .rdVElapsed v => Sys2Proof.Machine.execRdVElapsed v s
  | .rdVStart v => Sys2Proof.Machine.execRdVStart v s
  | .rdVWave v => Sys2Proof.Machine.execRdVWave v s
  | .tick => Sys2Proof.Machine.execTick s

end Sys2Proof.Machine
end

