-- ==== Sys2Proof/Machine/Events.lean ====
section
/-! DEFINITION. What one event of the schedule does to the block (00_scope.md R7, 20_memory.md R80): a port's word through the decoder
(40_bus_global.md R120), the `rst` input (R330, R331), and the tick source's violation (R345). -/

namespace Sys2Proof.Machine

/-- What a decoded port word does: the operation's rule, the error response of the transaction (R120, R302), or nothing (R96). -/
def performDecoded (p : PortWord) (d : Decoded) (s : State) : Answer :=
  match d with
  | .op i => exec i s
  | .error c =>
    match p with
    | .txn w => .next (raiseBusError c (txnW w) (txnAddr w) s)
    | .strobe _ => .next s
  | .noEvent => .next s

/-- A port's word is performed; while `rst` is 1 it is lost: no response and no change (R331, 93_implementation_defined.md I1). -/
def performPort (p : PortWord) (s : State) : Answer :=
  if s.rst then .next s else performDecoded p (decode s.n p) s

/-- One event of the schedule, as one atomic step (R80). -/
def performEvent (e : Event) (s : State) : Answer :=
  match e with
  | .port p => performPort p s
  | .rst level => .next (setRst level s)
  | .tickOverrun => if s.rst then .next s else .fault .tickOverrun

/-- The schedule with the port word `p` put first, and `rst` at 0, so that the next step performs `p`. -/
def presentFirst (p : PortWord) (s : State) : State :=
  { s with rst := false, inputs := .port p :: s.inputs }

end Sys2Proof.Machine
end

