-- ==== Sys2Proof/Machine/Step.lean ====
section
/-! DEFINITION. One step of the block: the next event of the schedule, and with nothing scheduled the block does nothing and keeps
its state (60_exceptions.md R320; log entries 1 and 2). -/

namespace Sys2Proof.Machine

/-- One step. The block fetches nothing (10_state.md R42): it takes what its agents present, in the order of the schedule. -/
def step (s : State) : Host.Outcome State Fault Refusal :=
  match s.inputs with
  | [] => .next s
  | e :: rest => performEvent e { s with inputs := rest }

/-- `s` with the word `w` of `nbits` bits of the opcode table's numbering presented next, so that `step` performs it. -/
def State.withFetchWord (s : State) (nbits w : Nat) : State := presentFirst (portWordOfTable nbits w) s

end Sys2Proof.Machine
end

