-- ==== Sys2Proof/Machine/HostConversions.lean ====
section
/-! DEFINITION. The conversions the spec states for the host (44_envelope.md R251, 45_oscillator.md R260, 20_memory.md R73). The block
performs none of them (00_scope.md R5): they are given so that a statement about ticks or phase increments can be read in
milliseconds and Hz. `fs` is the parameter FS of R8. A rational x is given as its numerator and denominator. -/

namespace Sys2Proof.Machine

/-- round_half_up(num / den) = floor(num / den + 1/2) (R251). -/
def roundHalfUp (num den : Nat) : Nat := (2 * num + den) / (2 * den)

/-- A duration of msNum / msDen milliseconds in ticks: round_half_up(ms · FS / 1000), at most 2^24 - 1 (R251). -/
def durationTicks (msNum msDen fs : Nat) : Nat := min (roundHalfUp (msNum * fs) (msDen * 1000)) (2 ^ 24 - 1)

/-- A sustain level num / den in [0, 1] as UQ1.15: round_half_up(sustain_level · 0x8000) (R251). -/
def sustainLevel (num den : Nat) : Nat := roundHalfUp (num * 0x8000) den

/-- The phase increment of a tone of fNum / fDen Hz: round_half_up(f · 2^32 / FS) mod 2^32 (R260). -/
def phaseIncrement (fNum fDen fs : Nat) : Nat := roundHalfUp (fNum * 2 ^ 32) (fDen * fs) % 2 ^ 32

/-- The byte a little-endian host bus shows at byte `i` of a register: bits [8i+7:8i] (R73). -/
def hostByte (d : Word) (i : Nat) : BitVec 8 := d.extractLsb' (8 * i) 8

end Sys2Proof.Machine
end

