-- ==== Sys2Proof/Machine/Program.lean ====
section
/-! DEFINITION. The textual program form of the spec as data (30_encoding.md R102, R103): what each statement and each
pseudo-instruction puts on the schedule, and the host's boot sequence (70_reset_and_hazards.md R334). -/

namespace Sys2Proof.Machine

/-- A value of the program form as a 32-bit word: a negative one stands for its two's complement (R102). -/
def programWord (value : Int) : Word := BitVec.ofInt 32 value

/-- The events of one statement (R102). -/
def statementEvents : Statement → List Event
  | .rd r => [.port (txn 0 r.addr 0)]
  | .wr r value => [.port (txn 1 r.addr (programWord value))]
  | .tick n => List.replicate n (.port (.strobe 1))

/-- The transactions a pseudo-instruction expands to, in order (R103). -/
def expandPseudo : Pseudo → List Statement
  | .commit => [.wr .COMMAND 1]
  | .filterClear => [.wr .COMMAND 2]
  | .softReset => [.wr .COMMAND 3]
  | .gateOn v => [.wr (.voice v .V_VCMD) 1]
  | .gateOff v => [.wr (.voice v .V_VCMD) 2]
  | .noteOn v pinc => [.wr (.voice v .V_PINC) pinc, .wr (.voice v .V_VCMD) 1]
  | .ackErr => [.wr .STATUS 1]
  | .ackClip => [.wr .STATUS 6]
  | .ackIdle v => [.wr .IDLE_EVENTS (2 ^ v.toNat)]
  | .publish values => values.map (fun pv => .wr (.shadow pv.1) pv.2) ++ [.wr .COMMAND 1]

/-- The schedule of a program: its statements' events in order (R102). Other interleavings are other schedules (R80). -/
def programEvents (p : List Statement) : List Event := p.flatMap statementEvents

/-- Steps 1 to 4 of the boot sequence (R334): identify, publish the parameters, set CTRL and IRQ_EN. -/
def bootSequence (params : List (Param × Int)) (filterEn irqEn : Int) : List Statement :=
  [.rd .ID, .rd .CONFIG] ++ expandPseudo (.publish params) ++ [.wr .CTRL filterEn, .wr .IRQ_EN irqEn]

end Sys2Proof.Machine
end

