-- ==== Sys2Proof/Safety.lean ====
section
/-! DEFINITION. The terms claims are stated in: the invariants of the state (10_state.md R45), runs of operations, and the register
images as numbers, field by field of the register map (R46), independent of how the meanings assemble them. -/

namespace Sys2Proof.Machine

/-! ### Invariants (R45) -/

/-- A voice's invariants (R45, points 1 to 3). -/
abbrev VoiceInv (x : Voice) : Prop :=
  x.L.toNat ≤ 0x8000 ∧ x.S.toNat ≤ 0x8000 ∧
  (x.ph = .Idle → x.L = 0#16 ∧ x.S = 0#16 ∧ x.k = 0#24) ∧
  (x.ph = .Attack ∨ x.ph = .Decay ∨ x.ph = .Release → x.k.toNat < 2 ^ 24 - 1)

/-- The bounds of R45 (points 1 to 4; point 5 is `activeCount s ≤ s.n`), of the parameters (R8, R262), the width of IDLE_EVENTS
(R37), and the codes ERR_INFO can hold (R300). -/
abbrev Bounds (s : State) : Prop :=
  (1 ≤ s.n ∧ s.n ≤ 16) ∧ s.sineLut.wf = true ∧
  (∀ x ∈ s.voice, VoiceInv x) ∧
  (s.shadow.SUSTAIN.toNat ≤ 0x8000 ∧ s.active.SUSTAIN.toNat ≤ 0x8000) ∧
  s.IDLE_EVENTS.toNat < 2 ^ s.n ∧
  s.ERR_INFO.CODE.toNat ≤ 6 ∧
  (s.ERR = true → s.ERR_INFO.CODE ≠ 0#4)

/-- With no shadow write since the last COMMIT or reset, the active set is the shadow set (R31, R160, R161). -/
abbrev Published (s : State) : Prop := s.PENDING = false → s.active = s.shadow

/-- The invariants of the state: its bounds, and what PENDING = 0 says of the two parameter sets. -/
abbrev Inv (s : State) : Prop := Bounds s ∧ Published s

/-! ### Responses and runs -/

/-- `s` with one OK response carrying `d` more, and nothing else changed. -/
abbrev answered (d : Word) (s : State) : State :=
  { s with responses := s.responses ++ [{ resp := .ok, rdata := d }] }

/-- `s` with one ERR response more, RDATA 0, and nothing else changed. -/
abbrev refusedOnBus (s : State) : State :=
  { s with responses := s.responses ++ [{ resp := .err, rdata := 0#32 }] }

/-- `s` with voice `v` replaced by `x`, and nothing else changed. -/
abbrev withVoiceAt (v : BitVec 4) (x : Voice) (s : State) : State :=
  { s with voice := s.voice.set v.toNat x }

/-- A list of operations, one after the other, stopping at the first that does not answer a next state. -/
def execAll : List Instr → State → Answer
  | [], s => .next s
  | i :: is, s =>
    match exec i s with
    | .next t => execAll is t
    | .fault r => .fault r
    | .refused r => .refused r

/-- `j` TICKs in a row, nothing between them. -/
def ticks (j : Nat) (s : State) : Answer := execAll (List.replicate j .tick) s

/-- A write of a shadow register: one of R162 to R172. -/
def isShadowWrite (i : Instr) : Bool :=
  match encode i with
  | .txn w => decide (txnW w = 1#1 ∧ 0x040 ≤ (txnAddr w).toNat ∧ (txnAddr w).toNat ≤ 0x068)
  | .strobe _ => false

/-! ### Register images as numbers (R46) -/

/-- A flag's value as a number. -/
def flagValue (b : Bool) : Nat := if b then 1 else 0

/-- `sext_16` as a number: a negative sample stands for itself modulo 2^32 (R11, R94). -/
def sextValue (v : Sample) : Nat := (v.toInt % 2 ^ 32).toNat

/-- A parameter's register image: its field, zero-extended (R46). -/
def paramValue (P : ParamSet) : Param → Nat
  | .B0 => P.B0.toNat
  | .B1 => P.B1.toNat
  | .B2 => P.B2.toNat
  | .A1 => P.A1.toNat
  | .A2 => P.A2.toNat
  | .ATTACK => P.ATTACK.toNat
  | .DECAY => P.DECAY.toNat
  | .RELEASE => P.RELEASE.toNat
  | .SUSTAIN => P.SUSTAIN.toNat
  | .MIX_GAIN => P.MIX_GAIN.toNat
  | .WAVEFORM => P.WAVEFORM.toNat

/-- Σ over the voices with ph ≠ Idle of 2^v, the first voice of the list having the number `v` (R40). -/
def activeMaskValue (v : Nat) : List Voice → Nat
  | [] => 0
  | x :: xs => (if x.ph = .Idle then 0 else 2 ^ v) + activeMaskValue (v + 1) xs

/-- A voice register's image (R46): V_VCMD cannot be read. -/
def voiceRegValue (x : Voice) : VoiceReg → Option Nat
  | .V_PINC => some x.pinc.toNat
  | .V_PHASE => some x.phase.toNat
  | .V_VCMD => none
  | .V_ENV => some (x.L.toNat * 2 ^ 16 + (phaseCode x.ph).toNat)
  | .V_ELAPSED => some x.k.toNat
  | .V_START => some x.S.toNat
  | .V_WAVE => some x.wave.toNat

/-- The number a read of a register answers, none where the register cannot be read or the voice does not exist (R46). -/
def regValue (s : State) : Reg → Option Nat
  | .ID => some 0x54464731
  | .CONFIG => some s.n
  | .CTRL => some (flagValue s.FILTER_EN)
  | .STATUS => some (flagValue s.ERR + 2 * flagValue s.CLIP_MIX + 4 * flagValue s.CLIP_FILT + 8 * flagValue s.PENDING)
  | .IRQ_EN => some (flagValue s.IDLE_IE + 2 * flagValue s.ERR_IE + 4 * flagValue s.CLIP_IE)
  | .COMMAND => none
  | .ERR_INFO => some (s.ERR_INFO.CODE.toNat + 2 ^ 16 * s.ERR_INFO.ADDR.toNat + 2 ^ 31 * s.ERR_INFO.W.toNat)
  | .IDLE_EVENTS => some s.IDLE_EVENTS.toNat
  | .ACTIVE_MASK => some (activeMaskValue 0 s.voice)
  | .ACTIVE_COUNT => some (s.voice.filter isActive).length
  | .SAMPLE_COUNT => some s.SAMPLE_COUNT.toNat
  | .MIX_OUT => some (sextValue s.MIX_OUT)
  | .LAST_OUT => some (sextValue s.LAST_OUT)
  | .shadow p => some (paramValue s.shadow p)
  | .X1 => some (sextValue s.x1)
  | .X2 => some (sextValue s.x2)
  | .Y1 => some (sextValue s.y1)
  | .Y2 => some (sextValue s.y2)
  | .act p => some (paramValue s.active p)
  | .voice v r => (s.voice[v.toNat]?).bind (fun x => voiceRegValue x r)

end Sys2Proof.Machine
end

