-- ==== Sys2Proof/Certificates/Slice0/Obligations.lean ====
section
/-! DEFINITION. The statements for the provers. Each cites the rule of the spec it formalises in OBLIGATIONS.json. What the agents
present stands in the schedule `inputs`, which is the model's choice (log entry 1) wherever a statement speaks of a step. -/

open Sys2Proof Sys2Proof.Machine

/-- A step runs the operation its scheduled word decodes to; the schedule and withFetchWord are the model's choice, log entries
1 and 13 (R120, R80, log entry 1, log entry 13). -/
def Obligations.StepRunsDecodedOperation : Prop :=
  (∀ (s : State) (p : PortWord) (rest : List Event) (i : Instr),
    s.rst = false → s.inputs = .port p :: rest → decode s.n p = .op i →
      step s = exec i { s with inputs := rest }) ∧
  (∀ (s : State) (nbits w : Nat) (i : Instr), decode s.n (portWordOfTable nbits w) = .op i →
      step (s.withFetchWord nbits w) = exec i { s with rst := false })

/-- Words written out from the spec's encodings decode to their operations (R98, R95, R96, 30_encoding.md section 3). -/
def Obligations.WrittenOutWordsDecode : Prop :=
  decode 4 (.txn 0x000DEADBEEF#43) = .op .rdId ∧
  decode 4 (.txn 0x40800000001#43) = .op (.wrCtrl 1#32) ∧
  decode 4 (.txn 0x40C00000002#43) = .op (.wrStatus 2#32) ∧
  decode 4 (.txn 0x41400000001#43) = .op .commit ∧
  decode 4 (.txn 0x41400000002#43) = .op .filterClear ∧
  decode 4 (.txn 0x41400000003#43) = .op .softReset ∧
  decode 4 (.txn 0x454FF123456#43) = .op (.wrAttack 0xFF123456#32) ∧
  decode 4 (.txn 0x06000000000#43) = .op .rdSustain ∧
  decode 4 (.txn 0x0E800000000#43) = .op .rdActWaveform ∧
  decode 4 (.txn 0x08C00000000#43) = .op .rdY2 ∧
  decode 4 (.txn 0x62080000000#43) = .op (.wrVPinc 1#4 0x80000000#32) ∧
  decode 4 (.txn 0x62800000001#43) = .op (.gateOn 1#4) ∧
  decode 4 (.txn 0x60800000002#43) = .op (.gateOff 0#4) ∧
  decode 4 (.txn 0x22C00000000#43) = .op (.rdVEnv 1#4) ∧
  decode 4 (.txn 0x21800000000#43) = .op (.rdVWave 0#4) ∧
  decode 4 (.strobe 1#1) = .op .tick ∧ decode 4 (.strobe 0#1) = .noEvent

/-- Decoding an encoded well-formed operation gives it back (R90, R92, R97, R98). -/
def Obligations.DecodeInvertsEncode : Prop :=
  ∀ (n : Nat) (i : Instr), i.wf n = true → decode n (encode i) = .op i

/-- Encoding a decoded word gives a write or a strobe back bit for bit, and a read with DATA = 0 (the model's choice, log entry
14) (R93, R97, R98, log entry 14). -/
def Obligations.EncodeInvertsDecode : Prop :=
  (∀ (n : Nat) (w : TxnWord) (i : Instr), decode n (.txn w) = .op i →
      i.wf n = true ∧
      encode i = .txn (txnWord (txnW w) (txnAddr w) (if txnW w = 1#1 then txnData w else 0#32))) ∧
  (∀ (n : Nat) (b : BitVec 1) (i : Instr), decode n (.strobe b) = .op i → encode i = .strobe b)

/-- Every well-formed operation, presented as its encoded word, is what the next step runs (R97, R98, R120, log entry 1). -/
def Obligations.EncodedOperationRunsNext : Prop :=
  ∀ (s : State) (i : Instr), i.wf s.n = true → step (presentFirst (encode i) s) = exec i { s with rst := false }

/-- The decoder raises exactly the error the first failing test of R97 names (R97, R99, R300, R304, 30_encoding.md section 2). -/
def Obligations.DecoderErrorClasses : Prop :=
  ∀ (n : Nat) (w : BitVec 1) (addr : Addr) (data : Word),
    let a := addr.toNat
    let off := (a - 0x200) % 0x20
    let aligned := a % 4 = 0
    let global := aligned ∧ a < 0x200
    let window := aligned ∧ 0x200 ≤ a ∧ (a - 0x200) / 0x20 < n
    (decode n (txn w addr data) = .error .misaligned ↔ ¬ aligned) ∧
    (decode n (txn w addr data) = .error .noVoice ↔ aligned ∧ 0x200 ≤ a ∧ n ≤ (a - 0x200) / 0x20) ∧
    (decode n (txn w addr data) = .error .unmapped ↔
      (global ∧ (0x034 ≤ a ∧ a ≤ 0x03C ∨ 0x06C ≤ a ∧ a ≤ 0x07C ∨ 0x090 ≤ a ∧ a ≤ 0x0BC ∨ 0x0EC ≤ a ∧ a ≤ 0x1FC)) ∨
      (window ∧ off = 0x1C)) ∧
    (decode n (txn w addr data) = .error .roWrite ↔ w = 1#1 ∧
      ((global ∧ (a ≤ 0x004 ∨ a = 0x018 ∨ 0x020 ≤ a ∧ a ≤ 0x030 ∨ 0x080 ≤ a ∧ a ≤ 0x08C ∨ 0x0C0 ≤ a ∧ a ≤ 0x0E8)) ∨
       (window ∧ 0x0C ≤ off ∧ off ≤ 0x18))) ∧
    (decode n (txn w addr data) = .error .woRead ↔ w = 0#1 ∧ ((global ∧ a = 0x014) ∨ (window ∧ off = 0x08))) ∧
    (decode n (txn w addr data) = .error .badCommand ↔ w = 1#1 ∧
      ((global ∧ a = 0x014 ∧ data ≠ 1#32 ∧ data ≠ 2#32 ∧ data ≠ 3#32) ∨
       (window ∧ off = 0x08 ∧ data ≠ 1#32 ∧ data ≠ 2#32))) ∧
    ((∀ c, decode n (txn w addr data) ≠ .error c) → ∃ i, decode n (txn w addr data) = .op i)

/-- A read's DATA field is ignored: any value selects the same read (R93). -/
def Obligations.ReadIgnoresData : Prop :=
  ∀ (s : State) (addr : Addr) (d e : Word),
    decode s.n (txn 0#1 addr d) = decode s.n (txn 0#1 addr e) ∧
    step (presentFirst (txn 0#1 addr d) s) = step (presentFirst (txn 0#1 addr e) s)

/-- The register map names each register at one address, a multiple of 4 (R46, R92, R98). -/
def Obligations.RegisterMapIsOneToOne : Prop :=
  (∀ r : Reg, r.addr.toNat % 4 = 0 ∧ regOf r.addr = some r) ∧
  (∀ r q : Reg, r.addr = q.addr → r = q) ∧
  (∀ (a : Addr) (r : Reg), a.toNat % 4 = 0 → regOf a = some r → r.addr = a) ∧
  (∀ p : Param, (Reg.act p).addr = (Reg.shadow p).addr + 0x80#10)

/-- Every step keeps the state's invariants (R45, R21, R31, R160, R161, R300). -/
def Obligations.StepKeepsInvariants : Prop :=
  ∀ (s t : State), step s = .next t →
    (Inv s → Inv t ∧ activeCount t ≤ t.n) ∧ (Bounds s → Bounds t ∧ activeCount t ≤ t.n)

/-- The reset state meets the invariants, for every choice of the parameters (R45, R330). -/
def Obligations.ResetMeetsInvariants : Prop :=
  (∀ c : Config, c.wf = true → Inv (State.resetOf c)) ∧ Inv State.reset

/-- No operation, error or reset stops the block; that the tick source's violation stops it is the model's choice (log entry 8)
(R301, R306, R307, 93_implementation_defined.md I2, log entry 8). -/
def Obligations.OnlyTickOverrunStops : Prop :=
  (∀ (i : Instr) (s : State), ∃ t, exec i s = .next t) ∧
  (∀ s : State,
    (step s = .fault .tickOverrun ↔ s.rst = false ∧ ∃ rest, s.inputs = .tickOverrun :: rest) ∧
    (step s = .fault .tickOverrun ∨ ∃ t, step s = .next t))

/-- Each transaction gets exactly one response; no transaction emits a sample (R90, R91, R120, R302, R295). -/
def Obligations.OneResponsePerTransaction : Prop :=
  ∀ (s : State) (w : TxnWord) (rest : List Event), s.rst = false → s.inputs = .port (.txn w) :: rest →
    ∃ t r, step s = .next t ∧ t.responses = s.responses ++ [r] ∧ t.inputs = rest ∧ t.samples = s.samples ∧
      (∀ c, decode s.n (.txn w) = .error c → r = { resp := .err, rdata := 0#32 }) ∧
      (∀ i, decode s.n (.txn w) = .op i →
        r.resp = .ok ∧ (txnW w = 1#1 → r.rdata = 0#32) ∧ (i ≠ .softReset → t.SAMPLE_COUNT = s.SAMPLE_COUNT))

/-- An error response sets ERR, records the first error, answers ERR with 0, and changes nothing else (R302, R303). -/
def Obligations.ErrorResponseChangesOnlyTheRecord : Prop :=
  (∀ (s : State) (w : TxnWord) (rest : List Event) (c : BusError),
    s.rst = false → s.inputs = .port (.txn w) :: rest → decode s.n (.txn w) = .error c →
      ∃ info, step s = .next (refusedOnBus { s with inputs := rest, ERR := true, ERR_INFO := info }) ∧
        (s.ERR = true → info = s.ERR_INFO) ∧
        (s.ERR = false → info.W = w.extractLsb' 42 1 ∧ info.ADDR = w.extractLsb' 32 10 ∧
          info.CODE.toNat = (match c with
            | .misaligned => 1 | .unmapped => 2 | .noVoice => 3 | .roWrite => 4 | .woRead => 5 | .badCommand => 6))) ∧
  (∀ s : State, ∃ d : Word, exec .rdErrInfo s = .next (answered d s) ∧
      d.extractLsb' 31 1 = s.ERR_INFO.W ∧ d.extractLsb' 26 5 = 0#5 ∧ d.extractLsb' 16 10 = s.ERR_INFO.ADDR ∧
      d.extractLsb' 4 12 = 0#12 ∧ d.extractLsb' 0 4 = s.ERR_INFO.CODE) ∧
  (∀ (s : State) (d : Word), ∃ t, exec (.wrStatus d) s = .next t ∧ t.ERR_INFO = s.ERR_INFO) ∧
  (∀ s t : State, step s = .next t → t.ERR_INFO ≠ s.ERR_INFO →
    (∃ l rest, s.inputs = .rst l :: rest) ∨
    (s.rst = false ∧ ∃ p rest, s.inputs = .port p :: rest ∧ decode s.n p = .op .softReset) ∨
    (s.rst = false ∧ s.ERR = false ∧ t.ERR = true ∧
      ∃ w rest c, s.inputs = .port (.txn w) :: rest ∧ decode s.n (.txn w) = .error c))

/-- exec of a voice operation with a voice index at or above N is the error NO_VOICE (the model's reading, log entry 11) (R200,
R201, R206, R300, R302, log entry 11). -/
def Obligations.VoiceOperationWithoutVoiceIsNoVoice : Prop :=
  ∀ (s : State) (i : Instr) (v : BitVec 4) (w : TxnWord),
    i.voiceIndex = some v → s.n ≤ v.toNat → encode i = .txn w →
      exec i s = .next (refusedOnBus { s with
        ERR := true
        ERR_INFO := if s.ERR then s.ERR_INFO else { CODE := 3#4, ADDR := txnAddr w, W := txnW w } })

/-- No operation clears a sticky flag but the W1C write that names it, SOFT_RESET and reset (R35, R121, R127, R136, R308, R230). -/
def Obligations.OnlyTheseClearFlags : Prop :=
  ∀ (s t : State), step s = .next t →
    (∃ l rest, s.inputs = .rst l :: rest) ∨
    (∃ p rest, s.inputs = .port p :: rest ∧ decode s.n p = .op .softReset) ∨
    ((s.ERR = true → t.ERR = true ∨
        ∃ p rest d, s.inputs = .port p :: rest ∧ decode s.n p = .op (.wrStatus d) ∧ d.getLsbD 0 = true) ∧
     (s.CLIP_MIX = true → t.CLIP_MIX = true ∨
        ∃ p rest d, s.inputs = .port p :: rest ∧ decode s.n p = .op (.wrStatus d) ∧ d.getLsbD 1 = true) ∧
     (s.CLIP_FILT = true → t.CLIP_FILT = true ∨
        ∃ p rest d, s.inputs = .port p :: rest ∧ decode s.n p = .op (.wrStatus d) ∧ d.getLsbD 2 = true) ∧
     (∀ v, s.IDLE_EVENTS.getLsbD v = true → t.IDLE_EVENTS.getLsbD v = true ∨
        ∃ p rest d, s.inputs = .port p :: rest ∧ decode s.n p = .op (.wrIdleEvents d) ∧ d.getLsbD v = true ∧ v < s.n))

/-- ERR is set by an error response only; the clip flags and idle events by TICK only; PENDING by a shadow write only (R35, R37,
R121, R302, R306, R31). -/
def Obligations.OnlyTheseSetFlags : Prop :=
  ∀ (s t : State) (i : Instr), i.wf s.n = true → exec i s = .next t →
    (s.ERR = false → t.ERR = false) ∧
    (i ≠ .tick → (s.CLIP_MIX = false → t.CLIP_MIX = false) ∧ (s.CLIP_FILT = false → t.CLIP_FILT = false) ∧
      (∀ v, s.IDLE_EVENTS.getLsbD v = false → t.IDLE_EVENTS.getLsbD v = false)) ∧
    (isShadowWrite i = false → s.PENDING = false → t.PENDING = false) ∧
    ((∀ d, i ≠ .wrCtrl d) → i ≠ .softReset → t.FILTER_EN = s.FILTER_EN) ∧
    ((∀ d, i ≠ .wrIrqEn d) → i ≠ .softReset →
      t.IDLE_IE = s.IDLE_IE ∧ t.ERR_IE = s.ERR_IE ∧ t.CLIP_IE = s.CLIP_IE)

/-- Only COMMIT, SOFT_RESET and reset write the active set, and they write it as a whole (R30, R84, R160). -/
def Obligations.ActiveSetChangesAsAWhole : Prop :=
  ∀ (s t : State), step s = .next t →
    t.active = s.active ∨
    (t.active = s.shadow ∧ ∃ p rest, s.inputs = .port p :: rest ∧ decode s.n p = .op .commit) ∨
    (t.active = ParamSet.reset s.n ∧
      ((∃ p rest, s.inputs = .port p :: rest ∧ decode s.n p = .op .softReset) ∨ ∃ l rest, s.inputs = .rst l :: rest))

/-- Only TICK, FILTER_CLEAR, SOFT_RESET and reset write the filter history (R32, R280). -/
def Obligations.FilterHistoryWriters : Prop :=
  ∀ (s t : State), step s = .next t →
    (t.x1 = s.x1 ∧ t.x2 = s.x2 ∧ t.y1 = s.y1 ∧ t.y2 = s.y2) ∨
    (∃ l rest, s.inputs = .rst l :: rest) ∨
    (∃ p rest, s.inputs = .port p :: rest ∧
      (decode s.n p = .op .tick ∨ decode s.n p = .op .filterClear ∨ decode s.n p = .op .softReset))

/-- Every TICK emits exactly one sample and counts one; nothing else does (R231). -/
def Obligations.OnlyTickEmitsSamples : Prop :=
  (∀ (s : State) (rest : List Event), s.rst = false → s.inputs = .port (.strobe 1#1) :: rest →
    ∃ t out, step s = .next t ∧ t.samples = s.samples ++ [out] ∧
      t.SAMPLE_COUNT.toNat = (s.SAMPLE_COUNT.toNat + 1) % 2 ^ 32) ∧
  (∀ (s t : State), step s = .next t → t.samples ≠ s.samples →
    s.rst = false ∧ ∃ rest, s.inputs = .port (.strobe 1#1) :: rest)

/-- No step changes the number of voices or the sine table (R21, R71, R330). -/
def Obligations.ParametersNeverChange : Prop :=
  ∀ (s t : State), step s = .next t → t.n = s.n ∧ t.sineLut = s.sineLut

/-- A voice's envelope phase moves only in the ways R240 lists (R240, R232, R247, R330). -/
def Obligations.EnvelopePhaseTransitions : Prop :=
  ∀ (s t : State) (i : Instr) (v : Nat) (x y : Voice), exec i s = .next t → s.voice[v]? = some x → t.voice[v]? = some y →
    (y.ph = x.ph ∨
     (y.ph = .Attack ∧ ∃ u : BitVec 4, u.toNat = v ∧ i = .gateOn u) ∨
     (y.ph = .Release ∧ (x.ph = .Attack ∨ x.ph = .Decay ∨ x.ph = .Sustain) ∧ ∃ u : BitVec 4, u.toNat = v ∧ i = .gateOff u) ∨
     (i = .tick ∧ ((x.ph = .Attack ∧ y.ph = .Decay) ∨ (x.ph = .Attack ∧ y.ph = .Sustain ∧ s.active.DECAY = 0#24) ∨
       (x.ph = .Decay ∧ y.ph = .Sustain) ∨ (x.ph = .Release ∧ y.ph = .Idle))) ∨
     (i = .softReset ∧ y.ph = .Idle)) ∧
    (i = .tick → x.ph = .Release →
      ((y.ph = .Idle ↔ s.active.RELEASE.toNat ≤ x.k.toNat + 1) ∧
       (y.ph = .Idle → v < 16 → t.IDLE_EVENTS.getLsbD v = true)))

/-- A TICK sets an idle-event bit exactly for the voices whose Release completes in it (R37, R247, R230). -/
def Obligations.IdleEventsFromReleaseOnly : Prop :=
  ∀ (s : State), s.n ≤ 16 → ∃ t, exec .tick s = .next t ∧
    ∀ v, v < 16 → (t.IDLE_EVENTS.getLsbD v = true ↔
      s.IDLE_EVENTS.getLsbD v = true ∨
      ∃ x, s.voice[v]? = some x ∧ x.ph = .Release ∧ s.active.RELEASE.toNat ≤ x.k.toNat + 1)

/-- irq is the OR of the enabled conditions, and 0 while rst is 1 (R310). -/
def Obligations.InterruptLineIsTheEnabledConditions : Prop :=
  (∀ s : State, s.rst = true → irqLine s = false) ∧
  (∀ s : State, s.rst = false →
    (irqLine s = true ↔
      (s.IDLE_IE = true ∧ s.IDLE_EVENTS ≠ 0#16) ∨ (s.ERR_IE = true ∧ s.ERR = true) ∨
      (s.CLIP_IE = true ∧ (s.CLIP_MIX = true ∨ s.CLIP_FILT = true)))) ∧
  (∀ s t : State, s.rst = false → exec (.wrIrqEn 7#32) s = .next t →
    (irqLine t = true ↔ s.IDLE_EVENTS ≠ 0#16 ∨ s.ERR = true ∨ s.CLIP_MIX = true ∨ s.CLIP_FILT = true)) ∧
  (∀ s t : State, exec (.wrIrqEn 0#32) s = .next t → irqLine t = false) ∧
  (∀ s t u : State, s.n ≤ 16 → s.IDLE_EVENTS.toNat < 2 ^ s.n → exec (.wrStatus 7#32) s = .next t →
    exec (.wrIdleEvents 0xFFFFFFFF#32) t = .next u → irqLine u = false)

/-- After reset every field has the value R330 lists, for every choice of the parameters (R330). -/
def Obligations.ResetStateIsAsListed : Prop :=
  (∀ (c : Config), let s := State.resetOf c
    s.n = c.n ∧ s.sineLut = c.sineLut ∧
    (∀ x ∈ s.voice, x = { ph := .Idle, L := 0, S := 0, k := 0, phase := 0, pinc := 0, wave := 0 }) ∧
    s.shadow = s.active ∧ s.active.B0 = 0x40000000#32 ∧
    s.active.B1 = 0 ∧ s.active.B2 = 0 ∧ s.active.A1 = 0 ∧ s.active.A2 = 0 ∧
    s.active.ATTACK = 0 ∧ s.active.DECAY = 0 ∧ s.active.RELEASE = 0 ∧ s.active.SUSTAIN = 0x8000#16 ∧
    (1 ≤ c.n → s.active.MIX_GAIN.toNat = 0x8000 / c.n) ∧ s.active.WAVEFORM = 0 ∧ s.PENDING = false ∧
    s.x1 = 0 ∧ s.x2 = 0 ∧ s.y1 = 0 ∧ s.y2 = 0 ∧ s.FILTER_EN = false ∧
    s.IDLE_IE = false ∧ s.ERR_IE = false ∧ s.CLIP_IE = false ∧
    s.ERR = false ∧ s.CLIP_MIX = false ∧ s.CLIP_FILT = false ∧
    s.ERR_INFO.CODE = 0 ∧ s.ERR_INFO.ADDR = 0 ∧ s.ERR_INFO.W = 0 ∧
    s.IDLE_EVENTS = 0 ∧ s.SAMPLE_COUNT = 0 ∧ s.MIX_OUT = 0 ∧ s.LAST_OUT = 0 ∧
    irqLine s = false ∧ activeMask s = 0 ∧ activeCount s = 0) ∧
  (ParamSet.reset 1).MIX_GAIN = 0x8000#16 ∧ (ParamSet.reset 2).MIX_GAIN = 0x4000#16 ∧
  (ParamSet.reset 3).MIX_GAIN = 0x2AAA#16 ∧ (ParamSet.reset 8).MIX_GAIN = 0x1000#16 ∧
  (ParamSet.reset 16).MIX_GAIN = 0x0800#16 ∧
  (∀ (s : State) (p : PortWord) (rest : List Event), s.rst = true →
    irqLine s = false ∧ (s.inputs = .port p :: rest → step s = .next { s with inputs := rest })) ∧
  (∀ (s : State) (rest : List Event), s.rst = true → s.inputs = .rst false :: rest →
    ∃ t, step s = .next t ∧ t = { State.resetOf { n := s.n, sineLut := s.sineLut } with
      inputs := rest, responses := t.responses, samples := t.samples })

/-- A rise or fall of rst puts the block in the reset state; the reset at the rise and the kept record are the model's choice,
log entry 6 (R330, R331, log entry 6). -/
def Obligations.RaisingRstResets : Prop :=
  (∀ (s : State) (rest : List Event), s.inputs = .rst true :: rest →
    step s = .next { State.resetOf { n := s.n, sineLut := s.sineLut } with
      rst := true, inputs := rest, responses := s.responses, samples := s.samples }) ∧
  (∀ (s : State) (rest : List Event), s.rst = true → s.inputs = .rst false :: rest →
    step s = .next { State.resetOf { n := s.n, sineLut := s.sineLut } with
      inputs := rest, responses := s.responses, samples := s.samples }) ∧
  (∀ (s : State) (rest : List Event), s.rst = false → s.inputs = .rst false :: rest →
    step s = .next { s with inputs := rest })

/-- SOFT_RESET puts the block in the reset state and responds OK; that rst, schedule and port record stay is the model's choice,
log entry 6 (R132, R330, R332, log entry 6). -/
def Obligations.SoftResetRestoresResetState : Prop :=
  ∀ s : State, exec .softReset s = .next (answered 0#32
    { State.resetOf { n := s.n, sineLut := s.sineLut } with
      rst := s.rst, inputs := s.inputs, responses := s.responses, samples := s.samples })

/-- Each read of a global register completes, answers its register, and changes nothing else (R122, R123, R124, R126, R128,
R134, R135, 40_bus_global.md R137 to R141, 40_bus_global.md R142 to R145, R94, log entry 17). -/
def Obligations.GlobalReadsAnswerTheirRegister : Prop :=
  ∀ s : State,
    exec .rdId s = .next (answered 0x54464731#32 s) ∧
    exec .rdConfig s = .next (answered (BitVec.ofNat 32 (s.n % 32)) s) ∧
    exec .rdCtrl s = .next (answered (if s.FILTER_EN then 1#32 else 0#32) s) ∧
    exec .rdStatus s = .next (answered
      (0#28 ++ BitVec.ofBool s.PENDING ++ BitVec.ofBool s.CLIP_FILT ++ BitVec.ofBool s.CLIP_MIX ++ BitVec.ofBool s.ERR) s) ∧
    exec .rdIrqEn s = .next (answered
      (0#29 ++ BitVec.ofBool s.CLIP_IE ++ BitVec.ofBool s.ERR_IE ++ BitVec.ofBool s.IDLE_IE) s) ∧
    exec .rdErrInfo s = .next (answered (s.ERR_INFO.W ++ 0#5 ++ s.ERR_INFO.ADDR ++ 0#12 ++ s.ERR_INFO.CODE) s) ∧
    exec .rdIdleEvents s = .next (answered (0#16 ++ s.IDLE_EVENTS) s) ∧
    exec .rdActiveMask s = .next (answered (0#16 ++ activeMask s) s) ∧
    exec .rdActiveCount s = .next (answered (BitVec.ofNat 32 (activeCount s % 32)) s) ∧
    exec .rdSampleCount s = .next (answered s.SAMPLE_COUNT s) ∧
    exec .rdMixOut s = .next (answered (BitVec.ofInt 32 s.MIX_OUT.toInt) s) ∧
    exec .rdLastOut s = .next (answered (BitVec.ofInt 32 s.LAST_OUT.toInt) s) ∧
    exec .rdX1 s = .next (answered (BitVec.ofInt 32 s.x1.toInt) s) ∧
    exec .rdX2 s = .next (answered (BitVec.ofInt 32 s.x2.toInt) s) ∧
    exec .rdY1 s = .next (answered (BitVec.ofInt 32 s.y1.toInt) s) ∧
    exec .rdY2 s = .next (answered (BitVec.ofInt 32 s.y2.toInt) s)

/-- Each read of a shadow register completes, answers the shadow field zero-extended, and changes nothing else (R173, R174,
R175, R176, R177, R178, R179, R180, R181, R182, R183). -/
def Obligations.ShadowReadsAnswerTheShadowSet : Prop :=
  ∀ s : State,
    exec .rdB0 s = .next (answered (BitVec.ofNat 32 s.shadow.B0.toNat) s) ∧
    exec .rdB1 s = .next (answered (BitVec.ofNat 32 s.shadow.B1.toNat) s) ∧
    exec .rdB2 s = .next (answered (BitVec.ofNat 32 s.shadow.B2.toNat) s) ∧
    exec .rdA1 s = .next (answered (BitVec.ofNat 32 s.shadow.A1.toNat) s) ∧
    exec .rdA2 s = .next (answered (BitVec.ofNat 32 s.shadow.A2.toNat) s) ∧
    exec .rdAttack s = .next (answered (BitVec.ofNat 32 s.shadow.ATTACK.toNat) s) ∧
    exec .rdDecay s = .next (answered (BitVec.ofNat 32 s.shadow.DECAY.toNat) s) ∧
    exec .rdRelease s = .next (answered (BitVec.ofNat 32 s.shadow.RELEASE.toNat) s) ∧
    exec .rdSustain s = .next (answered (BitVec.ofNat 32 s.shadow.SUSTAIN.toNat) s) ∧
    exec .rdMixGain s = .next (answered (BitVec.ofNat 32 s.shadow.MIX_GAIN.toNat) s) ∧
    exec .rdWaveform s = .next (answered (BitVec.ofNat 32 s.shadow.WAVEFORM.toNat) s)

/-- Each read of an ACT_ register completes, answers the active field zero-extended, and changes nothing else (R184, R185, R186,
R187, R188, R189, R190, R191, R192, R193, R194). -/
def Obligations.ActiveReadsAnswerTheActiveSet : Prop :=
  ∀ s : State,
    exec .rdActB0 s = .next (answered (BitVec.ofNat 32 s.active.B0.toNat) s) ∧
    exec .rdActB1 s = .next (answered (BitVec.ofNat 32 s.active.B1.toNat) s) ∧
    exec .rdActB2 s = .next (answered (BitVec.ofNat 32 s.active.B2.toNat) s) ∧
    exec .rdActA1 s = .next (answered (BitVec.ofNat 32 s.active.A1.toNat) s) ∧
    exec .rdActA2 s = .next (answered (BitVec.ofNat 32 s.active.A2.toNat) s) ∧
    exec .rdActAttack s = .next (answered (BitVec.ofNat 32 s.active.ATTACK.toNat) s) ∧
    exec .rdActDecay s = .next (answered (BitVec.ofNat 32 s.active.DECAY.toNat) s) ∧
    exec .rdActRelease s = .next (answered (BitVec.ofNat 32 s.active.RELEASE.toNat) s) ∧
    exec .rdActSustain s = .next (answered (BitVec.ofNat 32 s.active.SUSTAIN.toNat) s) ∧
    exec .rdActMixGain s = .next (answered (BitVec.ofNat 32 s.active.MIX_GAIN.toNat) s) ∧
    exec .rdActWaveform s = .next (answered (BitVec.ofNat 32 s.active.WAVEFORM.toNat) s)

/-- Each read of a voice register completes for v below N, answers the register, and changes nothing else (R202, R204, R208,
R209, R210, R211). -/
def Obligations.VoiceReadsAnswerTheirRegister : Prop :=
  ∀ (s : State) (v : BitVec 4) (x : Voice), s.voice[v.toNat]? = some x →
    exec (.rdVPinc v) s = .next (answered x.pinc s) ∧
    exec (.rdVPhase v) s = .next (answered x.phase s) ∧
    exec (.rdVEnv v) s = .next (answered (BitVec.ofNat 32 (x.L.toNat * 2 ^ 16 + (match x.ph with
      | .Idle => 0 | .Attack => 1 | .Decay => 2 | .Sustain => 3 | .Release => 4))) s) ∧
    exec (.rdVElapsed v) s = .next (answered (BitVec.ofNat 32 x.k.toNat) s) ∧
    exec (.rdVStart v) s = .next (answered (BitVec.ofNat 32 x.S.toNat) s) ∧
    exec (.rdVWave v) s = .next (answered (BitVec.ofNat 32 x.wave.toNat) s)

/-- Every readable register, read over the bus, answers the image the register map gives its fields (R46, R76, R94, R120, R40). -/
def Obligations.RegisterReadsRefineTheRegisterMap : Prop :=
  ∀ (s : State) (r : Reg) (data : Word) (rest : List Event),
    s.n ≤ 16 → s.rst = false → s.inputs = .port (txn 0#1 r.addr data) :: rest →
      (∀ k, regValue s r = some k →
        ∃ d : Word, step s = .next (answered d { s with inputs := rest }) ∧ d.toNat = k) ∧
      (regValue s r = none → ∃ t, step s = .next t ∧ t.ERR = true ∧
        t.responses = s.responses ++ [{ resp := .err, rdata := 0#32 }])

/-- Each shadow write stores the legalised DATA and sets PENDING; nothing else changes (R161). -/
def Obligations.ShadowWritesStoreLegalisedData : Prop :=
  (∀ (s : State) (d : Word),
    exec (.wrB0 d) s = .next (answered 0#32
      { s with shadow := { s.shadow with B0 := d }, PENDING := true }) ∧
    exec (.wrB1 d) s = .next (answered 0#32
      { s with shadow := { s.shadow with B1 := d }, PENDING := true }) ∧
    exec (.wrB2 d) s = .next (answered 0#32
      { s with shadow := { s.shadow with B2 := d }, PENDING := true }) ∧
    exec (.wrA1 d) s = .next (answered 0#32
      { s with shadow := { s.shadow with A1 := d }, PENDING := true }) ∧
    exec (.wrA2 d) s = .next (answered 0#32
      { s with shadow := { s.shadow with A2 := d }, PENDING := true }) ∧
    exec (.wrAttack d) s = .next (answered 0#32
      { s with shadow := { s.shadow with ATTACK := BitVec.ofNat 24 d.toNat }, PENDING := true }) ∧
    exec (.wrDecay d) s = .next (answered 0#32
      { s with shadow := { s.shadow with DECAY := BitVec.ofNat 24 d.toNat }, PENDING := true }) ∧
    exec (.wrRelease d) s = .next (answered 0#32
      { s with shadow := { s.shadow with RELEASE := BitVec.ofNat 24 d.toNat }, PENDING := true }) ∧
    exec (.wrSustain d) s = .next (answered 0#32
      { s with shadow := { s.shadow with SUSTAIN := BitVec.ofNat 16 (min (d.toNat % 2 ^ 16) 0x8000) }, PENDING := true }) ∧
    exec (.wrMixGain d) s = .next (answered 0#32
      { s with shadow := { s.shadow with MIX_GAIN := BitVec.ofNat 16 d.toNat }, PENDING := true }) ∧
    exec (.wrWaveform d) s = .next (answered 0#32
      { s with shadow := { s.shadow with WAVEFORM := BitVec.ofNat 2 d.toNat }, PENDING := true })) ∧
  (∀ (s t : State) (i : Instr), isShadowWrite i = true → exec i s = .next t →
    ∃ u w, exec .tick s = .next u ∧ exec .tick t = .next w ∧
      w = { u with shadow := t.shadow, PENDING := t.PENDING, responses := t.responses })

/-- A read right after a shadow write returns the legalised value, and the active set's read the old one (R29, R80, R161, R346). -/
def Obligations.ShadowWriteReadsBack : Prop :=
  ∀ (s t : State) (p : Param) (data e : Word), s.rst = false →
    step (presentFirst (txn 1#1 (Reg.shadow p).addr data) s) = .next t →
      (∃ d : Word, step (presentFirst (txn 0#1 (Reg.shadow p).addr e) t) = .next (answered d t) ∧
        d.toNat = (match p with
          | .B0 | .B1 | .B2 | .A1 | .A2 => data.toNat
          | .ATTACK | .DECAY | .RELEASE => data.toNat % 2 ^ 24
          | .SUSTAIN => min (data.toNat % 2 ^ 16) 0x8000
          | .MIX_GAIN => data.toNat % 2 ^ 16
          | .WAVEFORM => data.toNat % 4)) ∧
      (∃ d : Word, step (presentFirst (txn 0#1 (Reg.act p).addr e) t) = .next (answered d t) ∧
        d.toNat = paramValue s.active p) ∧
      (∃ d : Word, step (presentFirst (txn 0#1 Reg.STATUS.addr e) t) = .next (answered d t) ∧ d.getLsbD 3 = true)

/-- COMMIT copies the shadow set into the active set, clears PENDING, and changes nothing else (R160). -/
def Obligations.CommitPublishesTheShadowSet : Prop :=
  (∀ s : State, exec .commit s = .next (answered 0#32 { s with active := s.shadow, PENDING := false })) ∧
  (∀ s : State, Inv s → s.PENDING = false → exec .commit s = .next (answered 0#32 s))

/-- WR_CTRL, WR_IRQ_EN and FILTER_CLEAR write their fields and nothing else (R125, R129, R131). -/
def Obligations.ControlWritesStoreTheirBits : Prop :=
  ∀ (s : State) (d : Word),
    exec (.wrCtrl d) s = .next (answered 0#32 { s with FILTER_EN := d.toNat % 2 = 1 }) ∧
    exec (.wrIrqEn d) s = .next (answered 0#32 { s with
      IDLE_IE := d.toNat % 2 = 1, ERR_IE := d.toNat / 2 % 2 = 1, CLIP_IE := d.toNat / 4 % 2 = 1 }) ∧
    exec .filterClear s = .next (answered 0#32 { s with x1 := 0#16, x2 := 0#16, y1 := 0#16, y2 := 0#16 })

/-- WR_STATUS clears exactly the flags whose DATA bit is 1 and changes nothing else (R127, R348). -/
def Obligations.StatusWriteClearsNamedFlags : Prop :=
  ∀ (s : State) (d : Word), ∃ e m f : Bool,
    exec (.wrStatus d) s = .next (answered 0#32 { s with ERR := e, CLIP_MIX := m, CLIP_FILT := f }) ∧
    (e = true ↔ s.ERR = true ∧ d.toNat % 2 = 0) ∧
    (m = true ↔ s.CLIP_MIX = true ∧ d.toNat / 2 % 2 = 0) ∧
    (f = true ↔ s.CLIP_FILT = true ∧ d.toNat / 4 % 2 = 0)

/-- WR_IDLE_EVENTS clears exactly the bits of existing voices that DATA names (R136, R348). -/
def Obligations.IdleEventsWriteClearsNamedBits : Prop :=
  ∀ (s : State) (d : Word), s.n ≤ 16 → ∃ ev : BitVec 16,
    exec (.wrIdleEvents d) s = .next (answered 0#32 { s with IDLE_EVENTS := ev }) ∧
    ∀ v, v < 16 → (ev.getLsbD v = true ↔ s.IDLE_EVENTS.getLsbD v = true ∧ ¬ (v < s.n ∧ d.getLsbD v = true))

/-- WR_V_PINC and WR_V_PHASE write one field of one voice and nothing else (R201, R203). -/
def Obligations.VoiceWritesStoreTheirField : Prop :=
  ∀ (s : State) (v : BitVec 4) (x : Voice) (d : Word), s.voice[v.toNat]? = some x →
    exec (.wrVPinc v d) s = .next (answered 0#32 (withVoiceAt v { x with pinc := d } s)) ∧
    exec (.wrVPhase v d) s = .next (answered 0#32 (withVoiceAt v { x with phase := d } s))

/-- GATE_ON starts the Attack of voice v from its current level and latches the active waveform (R206). -/
def Obligations.GateOnStartsAttackFromCurrentLevel : Prop :=
  ∀ (s : State) (v : BitVec 4) (x : Voice), s.voice[v.toNat]? = some x →
    ∃ t, exec (.gateOn v) s = .next t ∧
      t = answered 0#32 (withVoiceAt v
        { ph := .Attack, L := x.L, S := x.L, k := 0#24, phase := x.phase, pinc := x.pinc, wave := s.active.WAVEFORM } s) ∧
      exec (.gateOn v) t = .next (answered 0#32 t)

/-- GATE_OFF releases a voice in Attack, Decay or Sustain from its current level and is ignored in Idle and Release (R207,
R301). -/
def Obligations.GateOffStartsReleaseOrIsIgnored : Prop :=
  ∀ (s : State) (v : BitVec 4) (x : Voice), s.voice[v.toNat]? = some x →
    (x.ph = .Attack ∨ x.ph = .Decay ∨ x.ph = .Sustain →
      exec (.gateOff v) s = .next (answered 0#32 (withVoiceAt v { x with ph := .Release, S := x.L, k := 0#24 } s))) ∧
    (x.ph = .Idle ∨ x.ph = .Release → exec (.gateOff v) s = .next (answered 0#32 s))

/-- TICK completes in every state and changes only what the sequence of R230 writes (R230, R231, R294, R295, R306, R39). -/
def Obligations.TickCompletesWithItsFrame : Prop :=
  ∀ s : State, ∃ t, exec .tick s = .next t ∧
    t.SAMPLE_COUNT = s.SAMPLE_COUNT + 1 ∧ t.LAST_OUT = (if s.FILTER_EN then t.y1 else t.MIX_OUT) ∧
    t.samples = s.samples ++ [t.LAST_OUT] ∧ t.x1 = t.MIX_OUT ∧ t.x2 = s.x1 ∧ t.y2 = s.y1 ∧ t.n = s.n ∧
    t = { s with
      voice := t.voice, IDLE_EVENTS := t.IDLE_EVENTS, CLIP_MIX := t.CLIP_MIX, CLIP_FILT := t.CLIP_FILT,
      x1 := t.x1, x2 := t.x2, y1 := t.y1, y2 := t.y2, SAMPLE_COUNT := t.SAMPLE_COUNT,
      MIX_OUT := t.MIX_OUT, LAST_OUT := t.LAST_OUT, samples := t.samples }

/-- A TICK keeps every field of an Idle voice and advances the phase of every active one (R232, R261, R267). -/
def Obligations.TickAdvancesActiveVoicesOnly : Prop :=
  (∀ s : State, ∃ t, exec .tick s = .next t ∧ ∀ (v : Nat) (x : Voice), s.voice[v]? = some x →
    ∃ y, t.voice[v]? = some y ∧ (x.ph = .Idle → y = x) ∧
      (x.ph ≠ .Idle → y.phase.toNat = (x.phase.toNat + x.pinc.toNat) % 2 ^ 32 ∧ y.pinc = x.pinc ∧ y.wave = x.wave)) ∧
  (∀ (s u t w : State) (v j : Nat) (x y z : Voice), exec .tick s = .next t → exec .tick u = .next w →
    s.active = u.active → s.voice[v]? = some x → u.voice[j]? = some x →
    t.voice[v]? = some y → w.voice[j]? = some z → y = z)

/-- MIX_OUT after a TICK is the saturated, gained sum of the active voices' samples, and CLIP_MIX records a clamp (R290, R291,
R292, R232). -/
def Obligations.TickMixesActiveVoices : Prop :=
  ∀ s : State, ∃ t, exec .tick s = .next t ∧
    let acc : Int := ((List.zip s.voice t.voice).map (fun xy : Voice × Voice =>
      if xy.1.ph = .Idle then 0
      else Int.fdiv (osc s.sineLut xy.1.wave xy.1.phase * (xy.2.L.toNat : Int)) (2 ^ 15))).sum
    let g := Int.fdiv (acc * (s.active.MIX_GAIN.toNat : Int)) (2 ^ 15)
    (g < -32768 → t.MIX_OUT.toInt = -32768) ∧
    (-32768 ≤ g → g ≤ 32767 → t.MIX_OUT.toInt = g) ∧
    (32767 < g → t.MIX_OUT.toInt = 32767) ∧
    (t.CLIP_MIX = true ↔ s.CLIP_MIX = true ∨ g < -32768 ∨ 32767 < g)

/-- The filter output of a TICK is the rounded, saturated difference equation, and the history shifts by one (R275, R276, R277,
R279). -/
def Obligations.TickFiltersTheMix : Prop :=
  ∀ s : State, ∃ t, exec .tick s = .next t ∧
    let acc : Int := s.active.B0.toInt * t.MIX_OUT.toInt + s.active.B1.toInt * s.x1.toInt + s.active.B2.toInt * s.x2.toInt
      - s.active.A1.toInt * s.y1.toInt - s.active.A2.toInt * s.y2.toInt
    let r := Int.fdiv (acc + 2 ^ 29) (2 ^ 30)
    (r < -32768 → t.y1.toInt = -32768) ∧ (-32768 ≤ r → r ≤ 32767 → t.y1.toInt = r) ∧
    (32767 < r → t.y1.toInt = 32767) ∧
    (t.CLIP_FILT = true ↔ s.CLIP_FILT = true ∨ r < -32768 ∨ 32767 < r) ∧
    t.x1 = t.MIX_OUT ∧ t.x2 = s.x1 ∧ t.y2 = s.y1

/-- The filter's exact sum has magnitude below 2^49, so a 50-bit accumulator is exact (R278). -/
def Obligations.FilterSumFitsFiftyBits : Prop :=
  ∀ (P : ParamSet) (x0 x1 x2 y1 y2 : Sample),
    (∀ (c : Word) (x : Sample), |c.toInt * x.toInt| ≤ 2 ^ 46) ∧
    |biquadAcc P x0 x1 x2 y1 y2| ≤ 5 * 2 ^ 46 ∧ |biquadAcc P x0 x1 x2 y1 y2| < 2 ^ 49

/-- The mixer's exact sum has magnitude at most N · 32768, so a 21-bit accumulator is exact (R290, R268, R45). -/
def Obligations.MixerSumFitsTwentyOneBits : Prop :=
  ∀ s : State, Bounds s → |mixSum s| ≤ s.n * 32768 ∧ |mixSum s| ≤ 2 ^ 19

/-- The oscillator is total and stays in [-32768, 32767] for every phase and waveform; the wave code selects R263 to R266
(R267). -/
def Obligations.OscillatorStaysInRange : Prop :=
  ∀ (t : SineTable) (wave : BitVec 2) (p : BitVec 32), t.wf = true →
    (-32768 ≤ osc t wave p ∧ osc t wave p ≤ 32767) ∧ (wave ≠ 3#2 → -32767 ≤ osc t wave p) ∧
    (osc t wave p = match wave.toNat with
      | 0 => sineEntry t (p.toNat / 2 ^ 22)
      | 1 => if p.toNat < 2 ^ 31 then 32767 else -32767
      | 2 => if p.toNat / 2 ^ 16 < 0x8000 then 2 * ((p.toNat / 2 ^ 16 : Nat) : Int) - 32767
             else 2 * (0xFFFF - ((p.toNat / 2 ^ 16 : Nat) : Int)) - 32767
      | _ => ((p.toNat / 2 ^ 16 : Nat) : Int) - 32768) ∧
    (∀ (P : ParamSet) (x : Voice), x.ph ≠ .Idle →
      tickSample t P x = voiceSample (osc t x.wave x.phase) (tickVoice P x).L)

/-- The default sine table has the symmetries, extremes and zeros R262 lists (R262). -/
def Obligations.SineTableSymmetries : Prop :=
  (∀ i, i < 1024 → let e := sineEntry .standard i
    (-32767 ≤ e ∧ e ≤ 32767) ∧ (e = 32767 ↔ i = 256) ∧ (e = -32767 ↔ i = 768) ∧ (e = 0 ↔ i = 0 ∨ i = 512) ∧
    (i < 512 → sineEntry .standard (512 + i) = - e) ∧
    (i ≤ 256 → sineEntry .standard (256 - i) = sineEntry .standard (256 + i))) ∧
  (∀ (t : SineTable) (i : Nat), t.wf = true → -32767 ≤ sineEntry t i ∧ sineEntry t i ≤ 32767)

/-- The voice sample is floor(o · L / 2^15): in range, o at full level, 0 at level 0 (R268). -/
def Obligations.VoiceSampleScalesTheOscillator : Prop :=
  (∀ (o : Int) (L : Level), -32768 ≤ o → o ≤ 32767 → L.toNat ≤ 0x8000 →
    voiceSample o L = Int.fdiv (o * (L.toNat : Int)) (2 ^ 15) ∧
    (-32768 ≤ voiceSample o L ∧ voiceSample o L ≤ 32767) ∧
    (L = 0x8000#16 → voiceSample o L = o) ∧ (L = 0#16 → voiceSample o L = 0)) ∧
  voiceSample 32767 0x8000#16 = 32767 ∧ voiceSample (-32768) 0x8000#16 = -32768 ∧ voiceSample 32767 0x4000#16 = 16383 ∧
  voiceSample (-32767) 0x4000#16 = -16384 ∧ voiceSample (-1) 1#16 = -1 ∧ voiceSample 1 1#16 = 0 ∧
  voiceSample (-32768) 1#16 = -1 ∧ voiceSample 12345 0#16 = 0

/-- Below its duration a ramp's level is S + tdiv((T - S)·k, D), between S and T (R242). -/
def Obligations.RampLevelLiesOnTheLine : Prop :=
  ∀ (P : ParamSet) (x : Voice) (T : Level) (D : Ticks),
    (x.ph = .Attack ∧ T = 0x8000#16 ∧ D = P.ATTACK) ∨ (x.ph = .Decay ∧ T = P.SUSTAIN ∧ D = P.DECAY) ∨
      (x.ph = .Release ∧ T = 0#16 ∧ D = P.RELEASE) →
    x.S.toNat ≤ 0x8000 → T.toNat ≤ 0x8000 → x.k.toNat + 1 < D.toNat →
      let y := envStep P x
      y = { x with k := y.k, L := y.L } ∧ y.k.toNat = x.k.toNat + 1 ∧
      (y.L.toNat : Int) = (x.S.toNat : Int) + Int.tdiv (((T.toNat : Int) - (x.S.toNat : Int)) * ((x.k.toNat : Int) + 1)) (D.toNat : Int) ∧
      min x.S.toNat T.toNat ≤ y.L.toNat ∧ y.L.toNat ≤ max x.S.toNat T.toNat

/-- From its duration on a segment completes at exactly its target, and Sustain follows the active level (R243, R244, R245,
R246, R247). -/
def Obligations.SegmentCompletesAtItsTarget : Prop :=
  ∀ (P : ParamSet) (x : Voice),
    (x.ph = .Attack → P.ATTACK.toNat ≤ x.k.toNat + 1 → P.DECAY ≠ 0#24 →
      envStep P x = { x with ph := .Decay, L := 0x8000#16, S := 0x8000#16, k := 0#24 }) ∧
    (x.ph = .Attack → P.ATTACK.toNat ≤ x.k.toNat + 1 → P.DECAY = 0#24 →
      envStep P x = { x with ph := .Sustain, L := P.SUSTAIN, S := P.SUSTAIN, k := 0#24 }) ∧
    (x.ph = .Decay → P.DECAY.toNat ≤ x.k.toNat + 1 →
      envStep P x = { x with ph := .Sustain, L := P.SUSTAIN, S := P.SUSTAIN, k := 0#24 }) ∧
    (x.ph = .Release → P.RELEASE.toNat ≤ x.k.toNat + 1 →
      envStep P x = { x with ph := .Idle, L := 0#16, S := 0#16, k := 0#24 }) ∧
    (x.ph = .Sustain → ∃ k : Ticks, envStep P x = { x with k := k, L := P.SUSTAIN } ∧
      k.toNat = min (x.k.toNat + 1) (2 ^ 24 - 1))

/-- With fixed parameters the level in Attack never falls, and in Release it never rises (R250, R242). -/
def Obligations.AttackNeverFallsReleaseNeverRises : Prop :=
  ∀ (P : ParamSet) (x : Voice), VoiceInv x →
    (x.ph = .Attack → x.k.toNat < P.ATTACK.toNat → x.L = rampLevel x.S 0x8000#16 x.k.toNat P.ATTACK.toNat →
      (envStep P x).ph = .Attack →
        x.L.toNat ≤ (envStep P x).L.toNat ∧
        (envStep P x).L = rampLevel x.S 0x8000#16 (envStep P x).k.toNat P.ATTACK.toNat) ∧
    (x.ph = .Release → x.k.toNat < P.RELEASE.toNat → x.L = rampLevel x.S 0#16 x.k.toNat P.RELEASE.toNat →
        (envStep P x).L.toNat ≤ x.L.toNat ∧
        ((envStep P x).ph = .Release →
          (envStep P x).L = rampLevel x.S 0#16 (envStep P x).k.toNat P.RELEASE.toNat))

/-- A GATE_OFF drives its voice through Release to Idle in exactly max(RELEASE, 1) TICKs, and there it stays (R250, R247, R207,
R232). -/
def Obligations.ReleaseReachesIdleAfterItsDuration : Prop :=
  ∀ (s t : State) (v : BitVec 4) (x : Voice), Bounds s → s.voice[v.toNat]? = some x →
    x.ph = .Attack ∨ x.ph = .Decay ∨ x.ph = .Sustain → exec (.gateOff v) s = .next t →
      let D := max s.active.RELEASE.toNat 1
      ∀ j, ∃ u y, ticks j t = .next u ∧ u.voice[v.toNat]? = some y ∧
        (j < D → y.ph = .Release ∧ y.k.toNat = j ∧ y.S = x.L ∧ y.L.toNat ≤ x.L.toNat) ∧
        (D ≤ j → y.ph = .Idle ∧ y.L = 0#16 ∧ y.S = 0#16 ∧ y.k = 0#24 ∧ u.IDLE_EVENTS.getLsbD v.toNat = true)

/-- A GATE_ON leads out of Attack in exactly max(ATTACK, 1) TICKs: into Decay at level 1.0, or with DECAY = 0 straight into
Sustain (R250, R206, R246). -/
def Obligations.AttackReachesFullLevelAfterItsDuration : Prop :=
  ∀ (s t : State) (v : BitVec 4) (x : Voice), Bounds s → s.voice[v.toNat]? = some x → exec (.gateOn v) s = .next t →
      let D := max s.active.ATTACK.toNat 1
      ∀ j, ∃ u y, ticks j t = .next u ∧ u.voice[v.toNat]? = some y ∧
        (j < D → y.ph = .Attack ∧ y.k.toNat = j ∧ y.S = x.L ∧ x.L.toNat ≤ y.L.toNat) ∧
        (j = D → s.active.DECAY ≠ 0#24 → y.ph = .Decay ∧ y.L = 0x8000#16 ∧ y.S = 0x8000#16 ∧ y.k = 0#24) ∧
        (j = D → s.active.DECAY = 0#24 →
          y.ph = .Sustain ∧ y.L = s.active.SUSTAIN ∧ y.S = s.active.SUSTAIN ∧ y.k = 0#24) ∧
        (D < j → y.ph = .Sustain ∨ (y.ph = .Decay ∧ s.active.DECAY ≠ 0#24))

/-- With every voice Idle and zero filter history, every TICK emits 0 (R234, R330). -/
def Obligations.SilentUntilGatedOn : Prop :=
  ∀ (s : State) (j : Nat), (∀ x ∈ s.voice, x.ph = .Idle) → s.x1 = 0#16 → s.x2 = 0#16 → s.y1 = 0#16 → s.y2 = 0#16 →
    ∃ t, ticks j s = .next t ∧ t.samples = s.samples ++ List.replicate j 0#16 ∧ t.voice = s.voice ∧
      t.x1 = 0#16 ∧ t.x2 = 0#16 ∧ t.y1 = 0#16 ∧ t.y2 = 0#16 ∧
      (1 ≤ j → t.MIX_OUT = 0#16 ∧ t.LAST_OUT = 0#16) ∧
      t.SAMPLE_COUNT.toNat = (s.SAMPLE_COUNT.toNat + j) % 2 ^ 32

/-- Shadow writes between TICKs change no sample, voice or filter state until a COMMIT (R233, R340, R161). -/
def Obligations.ShadowWritesInvisibleUntilCommit : Prop :=
  ∀ (is : List Instr) (s : State), (∀ i ∈ is, i = .tick ∨ isShadowWrite i = true) →
    ∃ t u, execAll is s = .next t ∧ execAll (is.filter (fun i => decide (i = .tick))) s = .next u ∧
      t = { u with shadow := t.shadow, PENDING := t.PENDING, responses := t.responses }

/-- ACTIVE_COUNT is the number of voices that are not Idle, never more than N, and bit v of ACTIVE_MASK is voice v's activity
(R40, R45, R138). -/
def Obligations.ActiveCountIsAtMostN : Prop :=
  ∀ s : State, s.n ≤ 16 →
    activeCount s = (s.voice.filter (fun x => decide (x.ph ≠ .Idle))).length ∧ activeCount s ≤ s.n ∧
    ∀ v, v < 16 → ((activeMask s).getLsbD v = true ↔ ∃ x, s.voice[v]? = some x ∧ x.ph ≠ .Idle)

/-- Each pseudo-instruction's transactions decode to the operations R103 lists, in order (R102, R103). -/
def Obligations.PseudoInstructionsExpandToOperations : Prop :=
  ∀ (n : Nat) (v : BitVec 4) (pinc : Int), v.toNat < n →
    let ops := fun p : Pseudo => (programEvents (expandPseudo p)).map (fun e => match e with
      | .port w => decode n w
      | .rst _ => .noEvent
      | .tickOverrun => .noEvent)
    ops .commit = [.op .commit] ∧ ops .filterClear = [.op .filterClear] ∧ ops .softReset = [.op .softReset] ∧
    ops (.gateOn v) = [.op (.gateOn v)] ∧ ops (.gateOff v) = [.op (.gateOff v)] ∧
    ops (.noteOn v pinc) = [.op (.wrVPinc v (BitVec.ofInt 32 pinc)), .op (.gateOn v)] ∧
    ops .ackErr = [.op (.wrStatus 1#32)] ∧ ops .ackClip = [.op (.wrStatus 6#32)] ∧
    ops (.ackIdle v) = [.op (.wrIdleEvents (1#32 <<< v.toNat))] ∧
    ∀ values : List (Param × Int), ops (.publish values) =
      values.map (fun pv : Param × Int =>
        let d : Word := BitVec.ofInt 32 pv.2
        match pv.1 with
        | .B0 => Decoded.op (.wrB0 d)
        | .B1 => Decoded.op (.wrB1 d)
        | .B2 => Decoded.op (.wrB2 d)
        | .A1 => Decoded.op (.wrA1 d)
        | .A2 => Decoded.op (.wrA2 d)
        | .ATTACK => Decoded.op (.wrAttack d)
        | .DECAY => Decoded.op (.wrDecay d)
        | .RELEASE => Decoded.op (.wrRelease d)
        | .SUSTAIN => Decoded.op (.wrSustain d)
        | .MIX_GAIN => Decoded.op (.wrMixGain d)
        | .WAVEFORM => Decoded.op (.wrWaveform d)) ++ [.op .commit]
end

