-- ==== Sys2Proof/Laws/Arith.lean ====
section
/-! SUPPORT. What the integer operators of R13 and the masks of R37 and R40 do. -/

namespace Sys2Proof.Machine

/-! ### Saturation -/

theorem sat16_bounds (v : Int) : -32768 ≤ sat16 v ∧ sat16 v ≤ 32767 := by
  unfold sat16 clamp; omega

theorem sat16_of_mem {v : Int} (h : -32768 ≤ v ∧ v ≤ 32767) : sat16 v = v := by
  unfold sat16 clamp; omega

/-- A 16-bit store of a value in the signed range reads back as that value. -/
theorem toInt_ofInt_of_mem {v : Int} (h : -32768 ≤ v ∧ v ≤ 32767) : (BitVec.ofInt 16 v).toInt = v := by
  rw [BitVec.toInt_ofInt]
  rw [Int.bmod_eq_of_le] <;> omega

@[simp] theorem toInt_ofInt_sat16 (v : Int) : (BitVec.ofInt 16 (sat16 v)).toInt = sat16 v :=
  toInt_ofInt_of_mem (sat16_bounds v)

/-- The range of a stored sample. -/
theorem sample_bounds (x : Sample) : -32768 ≤ x.toInt ∧ x.toInt ≤ 32767 := by
  have h1 := BitVec.le_toInt x
  have h2 := BitVec.toInt_lt (x := x)
  omega

/-! ### Shift and truncated division -/

theorem sra_bounds {a lo hi : Int} (s : Nat) (h : lo * 2 ^ s ≤ a ∧ a ≤ hi * 2 ^ s) : lo ≤ sra a s ∧ sra a s ≤ hi := by
  have hp : (0 : Int) < 2 ^ s := by positivity
  unfold sra
  exact ⟨(Int.le_ediv_iff_mul_le hp).2 h.1, by
    have := Int.ediv_le_ediv hp h.2
    rwa [Int.mul_ediv_cancel _ (ne_of_gt hp)] at this⟩

/-- A fraction of a difference, truncated toward zero, lies between 0 and the difference. -/
theorem tdiv_part_bounds (d : Int) {k D : Nat} (hD : 0 < D) (hk : k ≤ D) :
    (0 ≤ d → 0 ≤ tdiv (d * k) D ∧ tdiv (d * k) D ≤ d) ∧ (d ≤ 0 → d ≤ tdiv (d * k) D ∧ tdiv (d * k) D ≤ 0) := by
  have hDp : (0 : Int) < D := by exact_mod_cast hD
  have hkD : (k : Int) ≤ D := by exact_mod_cast hk
  have hk0 : (0 : Int) ≤ k := by positivity
  have key : ∀ e : Int, 0 ≤ e → 0 ≤ (e * k) / D ∧ (e * k) / D ≤ e := by
    intro e he
    refine ⟨Int.ediv_nonneg (by positivity) hDp.le, ?_⟩
    have h : e * k ≤ e * D := by nlinarith
    have := Int.ediv_le_ediv hDp h
    rwa [Int.mul_ediv_cancel _ (ne_of_gt hDp)] at this
  unfold tdiv
  constructor
  · intro hd
    rw [Int.tdiv_eq_ediv_of_nonneg (by positivity)]
    exact key d hd
  · intro hd
    have h := key (-d) (by omega)
    have e : d * k = -((-d) * k) := by ring
    rw [e, Int.neg_tdiv, Int.tdiv_eq_ediv_of_nonneg (by have : 0 ≤ -d := by omega
                                                        positivity)]
    omega

/-! ### Masks -/

theorem getLsbD_bitMask (l : List Bool) (i : Nat) (hi : i < 16) : (bitMask l).getLsbD i = l.getD i false := by
  induction l generalizing i with
  | nil => simp [bitMask]
  | cons b bs ih =>
    cases i with
    | zero => cases b <;> simp [bitMask]
    | succ j =>
      have h := ih j (by omega)
      rw [List.getD_cons_succ, ← h]
      simp only [bitMask, BitVec.getLsbD_or, BitVec.getLsbD_shiftLeft, BitVec.getLsbD_setWidth, hi]
      simp

theorem bitMask_toNat_lt (l : List Bool) : (bitMask l).toNat < 2 ^ l.length := by
  by_cases h : l.length < 16
  · refine Nat.lt_pow_two_of_testBit _ fun i hi => ?_
    by_cases h16 : i < 16
    · have := getLsbD_bitMask l i h16
      rw [List.getD_eq_default _ _ hi] at this
      simpa [BitVec.getLsbD] using this
    · exact Nat.testBit_lt_two_pow (lt_of_lt_of_le (bitMask l).isLt (Nat.pow_le_pow_right (by omega) (by omega)))
  · exact lt_of_lt_of_le (bitMask l).isLt (Nat.pow_le_pow_right (by omega) (by omega))

end Sys2Proof.Machine
end

