-- ==== Sys2Proof/Laws/Decode.lean ====
section
/-! SUPPORT. The fields of an encoded transaction, the fields of a voice address, and the agreement of the register map's three
readings: address, access code and operations. -/

namespace Sys2Proof

@[simp] theorem txnW_txnWord (w : BitVec 1) (a : Addr) (d : Word) : txnW (txnWord w a d) = w := by
  apply BitVec.eq_of_getLsbD_eq
  intro i hi
  simp only [txnW, txnWord, BitVec.getLsbD_extractLsb', BitVec.getLsbD_append]
  have : i = 0 := by omega
  subst this
  simp

@[simp] theorem txnAddr_txnWord (w : BitVec 1) (a : Addr) (d : Word) : txnAddr (txnWord w a d) = a := by
  apply BitVec.eq_of_getLsbD_eq
  intro i hi
  simp only [txnAddr, txnWord, BitVec.getLsbD_extractLsb', BitVec.getLsbD_append]
  have h1 : ¬ (32 + i < 32) := by omega
  have h3 : 32 + i - 32 = i := by omega
  simp [h1, h3, hi]

@[simp] theorem txnData_txnWord (w : BitVec 1) (a : Addr) (d : Word) : txnData (txnWord w a d) = d := by
  apply BitVec.eq_of_getLsbD_eq
  intro i hi
  simp only [txnData, txnWord, BitVec.getLsbD_extractLsb', BitVec.getLsbD_append]
  simp [hi]

/-- A transaction word is its three fields. -/
theorem txnWord_fields (w : TxnWord) : txnWord (txnW w) (txnAddr w) (txnData w) = w := by
  apply BitVec.eq_of_getLsbD_eq
  intro i hi
  simp only [txnData, txnWord, txnW, txnAddr, BitVec.getLsbD_extractLsb', BitVec.getLsbD_append]
  by_cases h1 : i < 32
  · simp [h1]
  · by_cases h2 : i - 32 < 10
    · have h3 : 32 + (i - 32) = i := by omega
      simp [h1, h2, h3]
    · have h3 : 42 + (i - 32 - 10) = i := by omega
      have h4 : i - 32 - 10 < 1 := by omega
      simp [h1, h2, h3, h4]

/-- The decoder reads a word it is given field by field. -/
theorem decode_txn (n : Nat) (w : BitVec 1) (a : Addr) (d : Word) : decode n (txn w a d) = decodeFields n w a d := by
  simp [decode, txn, decodeTxn]

/-- The fields of the address of offset 4·g in voice `v`'s window (R92). -/
theorem voiceAddr_fields (v : BitVec 4) (r : VoiceReg) :
    addrAlign (voiceAddr v r.offset) = 0#2 ∧ addrInVoiceHalf (voiceAddr v r.offset) = true ∧
      addrVoice (voiceAddr v r.offset) = v ∧ voiceRegOf (addrVoiceReg (voiceAddr v r.offset)) = some r := by
  revert v
  cases r <;> decide

/-- A register can be read exactly when it is not write-only. -/
theorem readOp_eq_none_iff (r : Reg) : readOp r = none ↔ r.access = .wo := by
  cases r with
  | shadow p => cases p <;> simp [readOp, Reg.access]
  | act p => cases p <;> simp [readOp, Reg.access]
  | voice v q => cases q <;> simp [readOp, Reg.access]
  | _ => simp [readOp, Reg.access]

/-- A register that is not read-only takes every write, but for the unlisted codes of the two command registers. -/
theorem writeOp_eq_none_iff (r : Reg) (d : Word) :
    writeOp r d = none ↔
      r.access = .ro ∨ (r = .COMMAND ∧ commandOp d = none) ∨ ∃ v, r = .voice v .V_VCMD ∧ voiceCommandOp v d = none := by
  cases r with
  | shadow p => cases p <;> simp [writeOp, Reg.access]
  | act p => cases p <;> simp [writeOp, Reg.access]
  | voice v q => cases q <;> simp [writeOp, Reg.access]
  | _ => simp [writeOp, Reg.access]

/-- The codes COMMAND does not take (R95). -/
theorem commandOp_eq_none_iff (d : Word) : commandOp d = none ↔ d ≠ 1#32 ∧ d ≠ 2#32 ∧ d ≠ 3#32 := by
  unfold commandOp
  by_cases h1 : d = 1#32 <;> by_cases h2 : d = 2#32 <;> by_cases h3 : d = 3#32 <;> simp [h1, h2, h3]

/-- The codes V_VCMD does not take (R95). -/
theorem voiceCommandOp_eq_none_iff (v : BitVec 4) (d : Word) : voiceCommandOp v d = none ↔ d ≠ 1#32 ∧ d ≠ 2#32 := by
  unfold voiceCommandOp
  by_cases h1 : d = 1#32 <;> by_cases h2 : d = 2#32 <;> simp [h1, h2]

end Sys2Proof
end

