-- ==== Sys2Proof/Laws/State.lean ====
section
/-! SUPPORT. One lemma per field of State for every named update of it, so that no proof unfolds a record update. -/

namespace Sys2Proof.Machine

/-! ### `respond` -/

@[simp] theorem respond_voice (r : Resp) (d : Word) (s : State) :
    (respond r d s).voice = s.voice := rfl
@[simp] theorem respond_shadow (r : Resp) (d : Word) (s : State) :
    (respond r d s).shadow = s.shadow := rfl
@[simp] theorem respond_active (r : Resp) (d : Word) (s : State) :
    (respond r d s).active = s.active := rfl
@[simp] theorem respond_PENDING (r : Resp) (d : Word) (s : State) :
    (respond r d s).PENDING = s.PENDING := rfl
@[simp] theorem respond_x1 (r : Resp) (d : Word) (s : State) :
    (respond r d s).x1 = s.x1 := rfl
@[simp] theorem respond_x2 (r : Resp) (d : Word) (s : State) :
    (respond r d s).x2 = s.x2 := rfl
@[simp] theorem respond_y1 (r : Resp) (d : Word) (s : State) :
    (respond r d s).y1 = s.y1 := rfl
@[simp] theorem respond_y2 (r : Resp) (d : Word) (s : State) :
    (respond r d s).y2 = s.y2 := rfl
@[simp] theorem respond_FILTER_EN (r : Resp) (d : Word) (s : State) :
    (respond r d s).FILTER_EN = s.FILTER_EN := rfl
@[simp] theorem respond_IDLE_IE (r : Resp) (d : Word) (s : State) :
    (respond r d s).IDLE_IE = s.IDLE_IE := rfl
@[simp] theorem respond_ERR_IE (r : Resp) (d : Word) (s : State) :
    (respond r d s).ERR_IE = s.ERR_IE := rfl
@[simp] theorem respond_CLIP_IE (r : Resp) (d : Word) (s : State) :
    (respond r d s).CLIP_IE = s.CLIP_IE := rfl
@[simp] theorem respond_ERR (r : Resp) (d : Word) (s : State) :
    (respond r d s).ERR = s.ERR := rfl
@[simp] theorem respond_CLIP_MIX (r : Resp) (d : Word) (s : State) :
    (respond r d s).CLIP_MIX = s.CLIP_MIX := rfl
@[simp] theorem respond_CLIP_FILT (r : Resp) (d : Word) (s : State) :
    (respond r d s).CLIP_FILT = s.CLIP_FILT := rfl
@[simp] theorem respond_ERR_INFO (r : Resp) (d : Word) (s : State) :
    (respond r d s).ERR_INFO = s.ERR_INFO := rfl
@[simp] theorem respond_IDLE_EVENTS (r : Resp) (d : Word) (s : State) :
    (respond r d s).IDLE_EVENTS = s.IDLE_EVENTS := rfl
@[simp] theorem respond_SAMPLE_COUNT (r : Resp) (d : Word) (s : State) :
    (respond r d s).SAMPLE_COUNT = s.SAMPLE_COUNT := rfl
@[simp] theorem respond_MIX_OUT (r : Resp) (d : Word) (s : State) :
    (respond r d s).MIX_OUT = s.MIX_OUT := rfl
@[simp] theorem respond_LAST_OUT (r : Resp) (d : Word) (s : State) :
    (respond r d s).LAST_OUT = s.LAST_OUT := rfl
@[simp] theorem respond_sineLut (r : Resp) (d : Word) (s : State) :
    (respond r d s).sineLut = s.sineLut := rfl
@[simp] theorem respond_rst (r : Resp) (d : Word) (s : State) :
    (respond r d s).rst = s.rst := rfl
@[simp] theorem respond_inputs (r : Resp) (d : Word) (s : State) :
    (respond r d s).inputs = s.inputs := rfl
@[simp] theorem respond_responses (r : Resp) (d : Word) (s : State) :
    (respond r d s).responses = s.responses ++ [{ resp := r, rdata := d }] := rfl
@[simp] theorem respond_samples (r : Resp) (d : Word) (s : State) :
    (respond r d s).samples = s.samples := rfl

/-! ### `raiseBusError` -/

@[simp] theorem raiseBusError_voice (c : BusError) (w : BitVec 1) (a : Addr) (s : State) :
    (raiseBusError c w a s).voice = s.voice := rfl
@[simp] theorem raiseBusError_shadow (c : BusError) (w : BitVec 1) (a : Addr) (s : State) :
    (raiseBusError c w a s).shadow = s.shadow := rfl
@[simp] theorem raiseBusError_active (c : BusError) (w : BitVec 1) (a : Addr) (s : State) :
    (raiseBusError c w a s).active = s.active := rfl
@[simp] theorem raiseBusError_PENDING (c : BusError) (w : BitVec 1) (a : Addr) (s : State) :
    (raiseBusError c w a s).PENDING = s.PENDING := rfl
@[simp] theorem raiseBusError_x1 (c : BusError) (w : BitVec 1) (a : Addr) (s : State) :
    (raiseBusError c w a s).x1 = s.x1 := rfl
@[simp] theorem raiseBusError_x2 (c : BusError) (w : BitVec 1) (a : Addr) (s : State) :
    (raiseBusError c w a s).x2 = s.x2 := rfl
@[simp] theorem raiseBusError_y1 (c : BusError) (w : BitVec 1) (a : Addr) (s : State) :
    (raiseBusError c w a s).y1 = s.y1 := rfl
@[simp] theorem raiseBusError_y2 (c : BusError) (w : BitVec 1) (a : Addr) (s : State) :
    (raiseBusError c w a s).y2 = s.y2 := rfl
@[simp] theorem raiseBusError_FILTER_EN (c : BusError) (w : BitVec 1) (a : Addr) (s : State) :
    (raiseBusError c w a s).FILTER_EN = s.FILTER_EN := rfl
@[simp] theorem raiseBusError_IDLE_IE (c : BusError) (w : BitVec 1) (a : Addr) (s : State) :
    (raiseBusError c w a s).IDLE_IE = s.IDLE_IE := rfl
@[simp] theorem raiseBusError_ERR_IE (c : BusError) (w : BitVec 1) (a : Addr) (s : State) :
    (raiseBusError c w a s).ERR_IE = s.ERR_IE := rfl
@[simp] theorem raiseBusError_CLIP_IE (c : BusError) (w : BitVec 1) (a : Addr) (s : State) :
    (raiseBusError c w a s).CLIP_IE = s.CLIP_IE := rfl
@[simp] theorem raiseBusError_ERR (c : BusError) (w : BitVec 1) (a : Addr) (s : State) :
    (raiseBusError c w a s).ERR = true := rfl
@[simp] theorem raiseBusError_CLIP_MIX (c : BusError) (w : BitVec 1) (a : Addr) (s : State) :
    (raiseBusError c w a s).CLIP_MIX = s.CLIP_MIX := rfl
@[simp] theorem raiseBusError_CLIP_FILT (c : BusError) (w : BitVec 1) (a : Addr) (s : State) :
    (raiseBusError c w a s).CLIP_FILT = s.CLIP_FILT := rfl
@[simp] theorem raiseBusError_ERR_INFO (c : BusError) (w : BitVec 1) (a : Addr) (s : State) :
    (raiseBusError c w a s).ERR_INFO = (if s.ERR then s.ERR_INFO else { CODE := errorCode c, ADDR := a, W := w }) := rfl
@[simp] theorem raiseBusError_IDLE_EVENTS (c : BusError) (w : BitVec 1) (a : Addr) (s : State) :
    (raiseBusError c w a s).IDLE_EVENTS = s.IDLE_EVENTS := rfl
@[simp] theorem raiseBusError_SAMPLE_COUNT (c : BusError) (w : BitVec 1) (a : Addr) (s : State) :
    (raiseBusError c w a s).SAMPLE_COUNT = s.SAMPLE_COUNT := rfl
@[simp] theorem raiseBusError_MIX_OUT (c : BusError) (w : BitVec 1) (a : Addr) (s : State) :
    (raiseBusError c w a s).MIX_OUT = s.MIX_OUT := rfl
@[simp] theorem raiseBusError_LAST_OUT (c : BusError) (w : BitVec 1) (a : Addr) (s : State) :
    (raiseBusError c w a s).LAST_OUT = s.LAST_OUT := rfl
@[simp] theorem raiseBusError_sineLut (c : BusError) (w : BitVec 1) (a : Addr) (s : State) :
    (raiseBusError c w a s).sineLut = s.sineLut := rfl
@[simp] theorem raiseBusError_rst (c : BusError) (w : BitVec 1) (a : Addr) (s : State) :
    (raiseBusError c w a s).rst = s.rst := rfl
@[simp] theorem raiseBusError_inputs (c : BusError) (w : BitVec 1) (a : Addr) (s : State) :
    (raiseBusError c w a s).inputs = s.inputs := rfl
@[simp] theorem raiseBusError_responses (c : BusError) (w : BitVec 1) (a : Addr) (s : State) :
    (raiseBusError c w a s).responses = s.responses ++ [{ resp := .err, rdata := 0#32 }] := rfl
@[simp] theorem raiseBusError_samples (c : BusError) (w : BitVec 1) (a : Addr) (s : State) :
    (raiseBusError c w a s).samples = s.samples := rfl

/-! ### `setVoice` -/

@[simp] theorem setVoice_voice (v : BitVec 4) (x : Voice) (s : State) :
    (setVoice v x s).voice = s.voice.set v.toNat x := rfl
@[simp] theorem setVoice_shadow (v : BitVec 4) (x : Voice) (s : State) :
    (setVoice v x s).shadow = s.shadow := rfl
@[simp] theorem setVoice_active (v : BitVec 4) (x : Voice) (s : State) :
    (setVoice v x s).active = s.active := rfl
@[simp] theorem setVoice_PENDING (v : BitVec 4) (x : Voice) (s : State) :
    (setVoice v x s).PENDING = s.PENDING := rfl
@[simp] theorem setVoice_x1 (v : BitVec 4) (x : Voice) (s : State) :
    (setVoice v x s).x1 = s.x1 := rfl
@[simp] theorem setVoice_x2 (v : BitVec 4) (x : Voice) (s : State) :
    (setVoice v x s).x2 = s.x2 := rfl
@[simp] theorem setVoice_y1 (v : BitVec 4) (x : Voice) (s : State) :
    (setVoice v x s).y1 = s.y1 := rfl
@[simp] theorem setVoice_y2 (v : BitVec 4) (x : Voice) (s : State) :
    (setVoice v x s).y2 = s.y2 := rfl
@[simp] theorem setVoice_FILTER_EN (v : BitVec 4) (x : Voice) (s : State) :
    (setVoice v x s).FILTER_EN = s.FILTER_EN := rfl
@[simp] theorem setVoice_IDLE_IE (v : BitVec 4) (x : Voice) (s : State) :
    (setVoice v x s).IDLE_IE = s.IDLE_IE := rfl
@[simp] theorem setVoice_ERR_IE (v : BitVec 4) (x : Voice) (s : State) :
    (setVoice v x s).ERR_IE = s.ERR_IE := rfl
@[simp] theorem setVoice_CLIP_IE (v : BitVec 4) (x : Voice) (s : State) :
    (setVoice v x s).CLIP_IE = s.CLIP_IE := rfl
@[simp] theorem setVoice_ERR (v : BitVec 4) (x : Voice) (s : State) :
    (setVoice v x s).ERR = s.ERR := rfl
@[simp] theorem setVoice_CLIP_MIX (v : BitVec 4) (x : Voice) (s : State) :
    (setVoice v x s).CLIP_MIX = s.CLIP_MIX := rfl
@[simp] theorem setVoice_CLIP_FILT (v : BitVec 4) (x : Voice) (s : State) :
    (setVoice v x s).CLIP_FILT = s.CLIP_FILT := rfl
@[simp] theorem setVoice_ERR_INFO (v : BitVec 4) (x : Voice) (s : State) :
    (setVoice v x s).ERR_INFO = s.ERR_INFO := rfl
@[simp] theorem setVoice_IDLE_EVENTS (v : BitVec 4) (x : Voice) (s : State) :
    (setVoice v x s).IDLE_EVENTS = s.IDLE_EVENTS := rfl
@[simp] theorem setVoice_SAMPLE_COUNT (v : BitVec 4) (x : Voice) (s : State) :
    (setVoice v x s).SAMPLE_COUNT = s.SAMPLE_COUNT := rfl
@[simp] theorem setVoice_MIX_OUT (v : BitVec 4) (x : Voice) (s : State) :
    (setVoice v x s).MIX_OUT = s.MIX_OUT := rfl
@[simp] theorem setVoice_LAST_OUT (v : BitVec 4) (x : Voice) (s : State) :
    (setVoice v x s).LAST_OUT = s.LAST_OUT := rfl
@[simp] theorem setVoice_sineLut (v : BitVec 4) (x : Voice) (s : State) :
    (setVoice v x s).sineLut = s.sineLut := rfl
@[simp] theorem setVoice_rst (v : BitVec 4) (x : Voice) (s : State) :
    (setVoice v x s).rst = s.rst := rfl
@[simp] theorem setVoice_inputs (v : BitVec 4) (x : Voice) (s : State) :
    (setVoice v x s).inputs = s.inputs := rfl
@[simp] theorem setVoice_responses (v : BitVec 4) (x : Voice) (s : State) :
    (setVoice v x s).responses = s.responses := rfl
@[simp] theorem setVoice_samples (v : BitVec 4) (x : Voice) (s : State) :
    (setVoice v x s).samples = s.samples := rfl

/-! ### `setShadow` -/

@[simp] theorem setShadow_voice (p : ParamSet) (s : State) :
    (setShadow p s).voice = s.voice := rfl
@[simp] theorem setShadow_shadow (p : ParamSet) (s : State) :
    (setShadow p s).shadow = p := rfl
@[simp] theorem setShadow_active (p : ParamSet) (s : State) :
    (setShadow p s).active = s.active := rfl
@[simp] theorem setShadow_PENDING (p : ParamSet) (s : State) :
    (setShadow p s).PENDING = true := rfl
@[simp] theorem setShadow_x1 (p : ParamSet) (s : State) :
    (setShadow p s).x1 = s.x1 := rfl
@[simp] theorem setShadow_x2 (p : ParamSet) (s : State) :
    (setShadow p s).x2 = s.x2 := rfl
@[simp] theorem setShadow_y1 (p : ParamSet) (s : State) :
    (setShadow p s).y1 = s.y1 := rfl
@[simp] theorem setShadow_y2 (p : ParamSet) (s : State) :
    (setShadow p s).y2 = s.y2 := rfl
@[simp] theorem setShadow_FILTER_EN (p : ParamSet) (s : State) :
    (setShadow p s).FILTER_EN = s.FILTER_EN := rfl
@[simp] theorem setShadow_IDLE_IE (p : ParamSet) (s : State) :
    (setShadow p s).IDLE_IE = s.IDLE_IE := rfl
@[simp] theorem setShadow_ERR_IE (p : ParamSet) (s : State) :
    (setShadow p s).ERR_IE = s.ERR_IE := rfl
@[simp] theorem setShadow_CLIP_IE (p : ParamSet) (s : State) :
    (setShadow p s).CLIP_IE = s.CLIP_IE := rfl
@[simp] theorem setShadow_ERR (p : ParamSet) (s : State) :
    (setShadow p s).ERR = s.ERR := rfl
@[simp] theorem setShadow_CLIP_MIX (p : ParamSet) (s : State) :
    (setShadow p s).CLIP_MIX = s.CLIP_MIX := rfl
@[simp] theorem setShadow_CLIP_FILT (p : ParamSet) (s : State) :
    (setShadow p s).CLIP_FILT = s.CLIP_FILT := rfl
@[simp] theorem setShadow_ERR_INFO (p : ParamSet) (s : State) :
    (setShadow p s).ERR_INFO = s.ERR_INFO := rfl
@[simp] theorem setShadow_IDLE_EVENTS (p : ParamSet) (s : State) :
    (setShadow p s).IDLE_EVENTS = s.IDLE_EVENTS := rfl
@[simp] theorem setShadow_SAMPLE_COUNT (p : ParamSet) (s : State) :
    (setShadow p s).SAMPLE_COUNT = s.SAMPLE_COUNT := rfl
@[simp] theorem setShadow_MIX_OUT (p : ParamSet) (s : State) :
    (setShadow p s).MIX_OUT = s.MIX_OUT := rfl
@[simp] theorem setShadow_LAST_OUT (p : ParamSet) (s : State) :
    (setShadow p s).LAST_OUT = s.LAST_OUT := rfl
@[simp] theorem setShadow_sineLut (p : ParamSet) (s : State) :
    (setShadow p s).sineLut = s.sineLut := rfl
@[simp] theorem setShadow_rst (p : ParamSet) (s : State) :
    (setShadow p s).rst = s.rst := rfl
@[simp] theorem setShadow_inputs (p : ParamSet) (s : State) :
    (setShadow p s).inputs = s.inputs := rfl
@[simp] theorem setShadow_responses (p : ParamSet) (s : State) :
    (setShadow p s).responses = s.responses := rfl
@[simp] theorem setShadow_samples (p : ParamSet) (s : State) :
    (setShadow p s).samples = s.samples := rfl

/-! ### `emit` -/

@[simp] theorem emit_voice (o : Sample) (s : State) :
    (emit o s).voice = s.voice := rfl
@[simp] theorem emit_shadow (o : Sample) (s : State) :
    (emit o s).shadow = s.shadow := rfl
@[simp] theorem emit_active (o : Sample) (s : State) :
    (emit o s).active = s.active := rfl
@[simp] theorem emit_PENDING (o : Sample) (s : State) :
    (emit o s).PENDING = s.PENDING := rfl
@[simp] theorem emit_x1 (o : Sample) (s : State) :
    (emit o s).x1 = s.x1 := rfl
@[simp] theorem emit_x2 (o : Sample) (s : State) :
    (emit o s).x2 = s.x2 := rfl
@[simp] theorem emit_y1 (o : Sample) (s : State) :
    (emit o s).y1 = s.y1 := rfl
@[simp] theorem emit_y2 (o : Sample) (s : State) :
    (emit o s).y2 = s.y2 := rfl
@[simp] theorem emit_FILTER_EN (o : Sample) (s : State) :
    (emit o s).FILTER_EN = s.FILTER_EN := rfl
@[simp] theorem emit_IDLE_IE (o : Sample) (s : State) :
    (emit o s).IDLE_IE = s.IDLE_IE := rfl
@[simp] theorem emit_ERR_IE (o : Sample) (s : State) :
    (emit o s).ERR_IE = s.ERR_IE := rfl
@[simp] theorem emit_CLIP_IE (o : Sample) (s : State) :
    (emit o s).CLIP_IE = s.CLIP_IE := rfl
@[simp] theorem emit_ERR (o : Sample) (s : State) :
    (emit o s).ERR = s.ERR := rfl
@[simp] theorem emit_CLIP_MIX (o : Sample) (s : State) :
    (emit o s).CLIP_MIX = s.CLIP_MIX := rfl
@[simp] theorem emit_CLIP_FILT (o : Sample) (s : State) :
    (emit o s).CLIP_FILT = s.CLIP_FILT := rfl
@[simp] theorem emit_ERR_INFO (o : Sample) (s : State) :
    (emit o s).ERR_INFO = s.ERR_INFO := rfl
@[simp] theorem emit_IDLE_EVENTS (o : Sample) (s : State) :
    (emit o s).IDLE_EVENTS = s.IDLE_EVENTS := rfl
@[simp] theorem emit_SAMPLE_COUNT (o : Sample) (s : State) :
    (emit o s).SAMPLE_COUNT = s.SAMPLE_COUNT := rfl
@[simp] theorem emit_MIX_OUT (o : Sample) (s : State) :
    (emit o s).MIX_OUT = s.MIX_OUT := rfl
@[simp] theorem emit_LAST_OUT (o : Sample) (s : State) :
    (emit o s).LAST_OUT = s.LAST_OUT := rfl
@[simp] theorem emit_sineLut (o : Sample) (s : State) :
    (emit o s).sineLut = s.sineLut := rfl
@[simp] theorem emit_rst (o : Sample) (s : State) :
    (emit o s).rst = s.rst := rfl
@[simp] theorem emit_inputs (o : Sample) (s : State) :
    (emit o s).inputs = s.inputs := rfl
@[simp] theorem emit_responses (o : Sample) (s : State) :
    (emit o s).responses = s.responses := rfl
@[simp] theorem emit_samples (o : Sample) (s : State) :
    (emit o s).samples = s.samples ++ [o] := rfl

/-! ### `clearStatus` -/

@[simp] theorem clearStatus_voice (d : Word) (s : State) :
    (clearStatus d s).voice = s.voice := rfl
@[simp] theorem clearStatus_shadow (d : Word) (s : State) :
    (clearStatus d s).shadow = s.shadow := rfl
@[simp] theorem clearStatus_active (d : Word) (s : State) :
    (clearStatus d s).active = s.active := rfl
@[simp] theorem clearStatus_PENDING (d : Word) (s : State) :
    (clearStatus d s).PENDING = s.PENDING := rfl
@[simp] theorem clearStatus_x1 (d : Word) (s : State) :
    (clearStatus d s).x1 = s.x1 := rfl
@[simp] theorem clearStatus_x2 (d : Word) (s : State) :
    (clearStatus d s).x2 = s.x2 := rfl
@[simp] theorem clearStatus_y1 (d : Word) (s : State) :
    (clearStatus d s).y1 = s.y1 := rfl
@[simp] theorem clearStatus_y2 (d : Word) (s : State) :
    (clearStatus d s).y2 = s.y2 := rfl
@[simp] theorem clearStatus_FILTER_EN (d : Word) (s : State) :
    (clearStatus d s).FILTER_EN = s.FILTER_EN := rfl
@[simp] theorem clearStatus_IDLE_IE (d : Word) (s : State) :
    (clearStatus d s).IDLE_IE = s.IDLE_IE := rfl
@[simp] theorem clearStatus_ERR_IE (d : Word) (s : State) :
    (clearStatus d s).ERR_IE = s.ERR_IE := rfl
@[simp] theorem clearStatus_CLIP_IE (d : Word) (s : State) :
    (clearStatus d s).CLIP_IE = s.CLIP_IE := rfl
@[simp] theorem clearStatus_ERR (d : Word) (s : State) :
    (clearStatus d s).ERR = w1c (d.getLsbD 0) s.ERR := rfl
@[simp] theorem clearStatus_CLIP_MIX (d : Word) (s : State) :
    (clearStatus d s).CLIP_MIX = w1c (d.getLsbD 1) s.CLIP_MIX := rfl
@[simp] theorem clearStatus_CLIP_FILT (d : Word) (s : State) :
    (clearStatus d s).CLIP_FILT = w1c (d.getLsbD 2) s.CLIP_FILT := rfl
@[simp] theorem clearStatus_ERR_INFO (d : Word) (s : State) :
    (clearStatus d s).ERR_INFO = s.ERR_INFO := rfl
@[simp] theorem clearStatus_IDLE_EVENTS (d : Word) (s : State) :
    (clearStatus d s).IDLE_EVENTS = s.IDLE_EVENTS := rfl
@[simp] theorem clearStatus_SAMPLE_COUNT (d : Word) (s : State) :
    (clearStatus d s).SAMPLE_COUNT = s.SAMPLE_COUNT := rfl
@[simp] theorem clearStatus_MIX_OUT (d : Word) (s : State) :
    (clearStatus d s).MIX_OUT = s.MIX_OUT := rfl
@[simp] theorem clearStatus_LAST_OUT (d : Word) (s : State) :
    (clearStatus d s).LAST_OUT = s.LAST_OUT := rfl
@[simp] theorem clearStatus_sineLut (d : Word) (s : State) :
    (clearStatus d s).sineLut = s.sineLut := rfl
@[simp] theorem clearStatus_rst (d : Word) (s : State) :
    (clearStatus d s).rst = s.rst := rfl
@[simp] theorem clearStatus_inputs (d : Word) (s : State) :
    (clearStatus d s).inputs = s.inputs := rfl
@[simp] theorem clearStatus_responses (d : Word) (s : State) :
    (clearStatus d s).responses = s.responses := rfl
@[simp] theorem clearStatus_samples (d : Word) (s : State) :
    (clearStatus d s).samples = s.samples := rfl

/-! ### `clearIdleEvents` -/

@[simp] theorem clearIdleEvents_voice (d : Word) (s : State) :
    (clearIdleEvents d s).voice = s.voice := rfl
@[simp] theorem clearIdleEvents_shadow (d : Word) (s : State) :
    (clearIdleEvents d s).shadow = s.shadow := rfl
@[simp] theorem clearIdleEvents_active (d : Word) (s : State) :
    (clearIdleEvents d s).active = s.active := rfl
@[simp] theorem clearIdleEvents_PENDING (d : Word) (s : State) :
    (clearIdleEvents d s).PENDING = s.PENDING := rfl
@[simp] theorem clearIdleEvents_x1 (d : Word) (s : State) :
    (clearIdleEvents d s).x1 = s.x1 := rfl
@[simp] theorem clearIdleEvents_x2 (d : Word) (s : State) :
    (clearIdleEvents d s).x2 = s.x2 := rfl
@[simp] theorem clearIdleEvents_y1 (d : Word) (s : State) :
    (clearIdleEvents d s).y1 = s.y1 := rfl
@[simp] theorem clearIdleEvents_y2 (d : Word) (s : State) :
    (clearIdleEvents d s).y2 = s.y2 := rfl
@[simp] theorem clearIdleEvents_FILTER_EN (d : Word) (s : State) :
    (clearIdleEvents d s).FILTER_EN = s.FILTER_EN := rfl
@[simp] theorem clearIdleEvents_IDLE_IE (d : Word) (s : State) :
    (clearIdleEvents d s).IDLE_IE = s.IDLE_IE := rfl
@[simp] theorem clearIdleEvents_ERR_IE (d : Word) (s : State) :
    (clearIdleEvents d s).ERR_IE = s.ERR_IE := rfl
@[simp] theorem clearIdleEvents_CLIP_IE (d : Word) (s : State) :
    (clearIdleEvents d s).CLIP_IE = s.CLIP_IE := rfl
@[simp] theorem clearIdleEvents_ERR (d : Word) (s : State) :
    (clearIdleEvents d s).ERR = s.ERR := rfl
@[simp] theorem clearIdleEvents_CLIP_MIX (d : Word) (s : State) :
    (clearIdleEvents d s).CLIP_MIX = s.CLIP_MIX := rfl
@[simp] theorem clearIdleEvents_CLIP_FILT (d : Word) (s : State) :
    (clearIdleEvents d s).CLIP_FILT = s.CLIP_FILT := rfl
@[simp] theorem clearIdleEvents_ERR_INFO (d : Word) (s : State) :
    (clearIdleEvents d s).ERR_INFO = s.ERR_INFO := rfl
@[simp] theorem clearIdleEvents_IDLE_EVENTS (d : Word) (s : State) :
    (clearIdleEvents d s).IDLE_EVENTS = s.IDLE_EVENTS &&& ~~~ (d.extractLsb' 0 16 &&& voiceBits s.n) := rfl
@[simp] theorem clearIdleEvents_SAMPLE_COUNT (d : Word) (s : State) :
    (clearIdleEvents d s).SAMPLE_COUNT = s.SAMPLE_COUNT := rfl
@[simp] theorem clearIdleEvents_MIX_OUT (d : Word) (s : State) :
    (clearIdleEvents d s).MIX_OUT = s.MIX_OUT := rfl
@[simp] theorem clearIdleEvents_LAST_OUT (d : Word) (s : State) :
    (clearIdleEvents d s).LAST_OUT = s.LAST_OUT := rfl
@[simp] theorem clearIdleEvents_sineLut (d : Word) (s : State) :
    (clearIdleEvents d s).sineLut = s.sineLut := rfl
@[simp] theorem clearIdleEvents_rst (d : Word) (s : State) :
    (clearIdleEvents d s).rst = s.rst := rfl
@[simp] theorem clearIdleEvents_inputs (d : Word) (s : State) :
    (clearIdleEvents d s).inputs = s.inputs := rfl
@[simp] theorem clearIdleEvents_responses (d : Word) (s : State) :
    (clearIdleEvents d s).responses = s.responses := rfl
@[simp] theorem clearIdleEvents_samples (d : Word) (s : State) :
    (clearIdleEvents d s).samples = s.samples := rfl

/-! ### `voiceStage` -/

@[simp] theorem voiceStage_voice (s : State) :
    (voiceStage s).voice = s.voice.map (tickVoice s.active) := rfl
@[simp] theorem voiceStage_shadow (s : State) :
    (voiceStage s).shadow = s.shadow := rfl
@[simp] theorem voiceStage_active (s : State) :
    (voiceStage s).active = s.active := rfl
@[simp] theorem voiceStage_PENDING (s : State) :
    (voiceStage s).PENDING = s.PENDING := rfl
@[simp] theorem voiceStage_x1 (s : State) :
    (voiceStage s).x1 = s.x1 := rfl
@[simp] theorem voiceStage_x2 (s : State) :
    (voiceStage s).x2 = s.x2 := rfl
@[simp] theorem voiceStage_y1 (s : State) :
    (voiceStage s).y1 = s.y1 := rfl
@[simp] theorem voiceStage_y2 (s : State) :
    (voiceStage s).y2 = s.y2 := rfl
@[simp] theorem voiceStage_FILTER_EN (s : State) :
    (voiceStage s).FILTER_EN = s.FILTER_EN := rfl
@[simp] theorem voiceStage_IDLE_IE (s : State) :
    (voiceStage s).IDLE_IE = s.IDLE_IE := rfl
@[simp] theorem voiceStage_ERR_IE (s : State) :
    (voiceStage s).ERR_IE = s.ERR_IE := rfl
@[simp] theorem voiceStage_CLIP_IE (s : State) :
    (voiceStage s).CLIP_IE = s.CLIP_IE := rfl
@[simp] theorem voiceStage_ERR (s : State) :
    (voiceStage s).ERR = s.ERR := rfl
@[simp] theorem voiceStage_CLIP_MIX (s : State) :
    (voiceStage s).CLIP_MIX = s.CLIP_MIX := rfl
@[simp] theorem voiceStage_CLIP_FILT (s : State) :
    (voiceStage s).CLIP_FILT = s.CLIP_FILT := rfl
@[simp] theorem voiceStage_ERR_INFO (s : State) :
    (voiceStage s).ERR_INFO = s.ERR_INFO := rfl
@[simp] theorem voiceStage_IDLE_EVENTS (s : State) :
    (voiceStage s).IDLE_EVENTS = s.IDLE_EVENTS ||| tickIdleEvents s := rfl
@[simp] theorem voiceStage_SAMPLE_COUNT (s : State) :
    (voiceStage s).SAMPLE_COUNT = s.SAMPLE_COUNT := rfl
@[simp] theorem voiceStage_MIX_OUT (s : State) :
    (voiceStage s).MIX_OUT = s.MIX_OUT := rfl
@[simp] theorem voiceStage_LAST_OUT (s : State) :
    (voiceStage s).LAST_OUT = s.LAST_OUT := rfl
@[simp] theorem voiceStage_sineLut (s : State) :
    (voiceStage s).sineLut = s.sineLut := rfl
@[simp] theorem voiceStage_rst (s : State) :
    (voiceStage s).rst = s.rst := rfl
@[simp] theorem voiceStage_inputs (s : State) :
    (voiceStage s).inputs = s.inputs := rfl
@[simp] theorem voiceStage_responses (s : State) :
    (voiceStage s).responses = s.responses := rfl
@[simp] theorem voiceStage_samples (s : State) :
    (voiceStage s).samples = s.samples := rfl

/-! ### `mixStage` -/

@[simp] theorem mixStage_voice (P : ParamSet) (acc : Int) (s : State) :
    (mixStage P acc s).voice = s.voice := rfl
@[simp] theorem mixStage_shadow (P : ParamSet) (acc : Int) (s : State) :
    (mixStage P acc s).shadow = s.shadow := rfl
@[simp] theorem mixStage_active (P : ParamSet) (acc : Int) (s : State) :
    (mixStage P acc s).active = s.active := rfl
@[simp] theorem mixStage_PENDING (P : ParamSet) (acc : Int) (s : State) :
    (mixStage P acc s).PENDING = s.PENDING := rfl
@[simp] theorem mixStage_x1 (P : ParamSet) (acc : Int) (s : State) :
    (mixStage P acc s).x1 = s.x1 := rfl
@[simp] theorem mixStage_x2 (P : ParamSet) (acc : Int) (s : State) :
    (mixStage P acc s).x2 = s.x2 := rfl
@[simp] theorem mixStage_y1 (P : ParamSet) (acc : Int) (s : State) :
    (mixStage P acc s).y1 = s.y1 := rfl
@[simp] theorem mixStage_y2 (P : ParamSet) (acc : Int) (s : State) :
    (mixStage P acc s).y2 = s.y2 := rfl
@[simp] theorem mixStage_FILTER_EN (P : ParamSet) (acc : Int) (s : State) :
    (mixStage P acc s).FILTER_EN = s.FILTER_EN := rfl
@[simp] theorem mixStage_IDLE_IE (P : ParamSet) (acc : Int) (s : State) :
    (mixStage P acc s).IDLE_IE = s.IDLE_IE := rfl
@[simp] theorem mixStage_ERR_IE (P : ParamSet) (acc : Int) (s : State) :
    (mixStage P acc s).ERR_IE = s.ERR_IE := rfl
@[simp] theorem mixStage_CLIP_IE (P : ParamSet) (acc : Int) (s : State) :
    (mixStage P acc s).CLIP_IE = s.CLIP_IE := rfl
@[simp] theorem mixStage_ERR (P : ParamSet) (acc : Int) (s : State) :
    (mixStage P acc s).ERR = s.ERR := rfl
@[simp] theorem mixStage_CLIP_MIX (P : ParamSet) (acc : Int) (s : State) :
    (mixStage P acc s).CLIP_MIX = stick s.CLIP_MIX (mixClips P acc) := rfl
@[simp] theorem mixStage_CLIP_FILT (P : ParamSet) (acc : Int) (s : State) :
    (mixStage P acc s).CLIP_FILT = s.CLIP_FILT := rfl
@[simp] theorem mixStage_ERR_INFO (P : ParamSet) (acc : Int) (s : State) :
    (mixStage P acc s).ERR_INFO = s.ERR_INFO := rfl
@[simp] theorem mixStage_IDLE_EVENTS (P : ParamSet) (acc : Int) (s : State) :
    (mixStage P acc s).IDLE_EVENTS = s.IDLE_EVENTS := rfl
@[simp] theorem mixStage_SAMPLE_COUNT (P : ParamSet) (acc : Int) (s : State) :
    (mixStage P acc s).SAMPLE_COUNT = s.SAMPLE_COUNT := rfl
@[simp] theorem mixStage_MIX_OUT (P : ParamSet) (acc : Int) (s : State) :
    (mixStage P acc s).MIX_OUT = mixM P acc := rfl
@[simp] theorem mixStage_LAST_OUT (P : ParamSet) (acc : Int) (s : State) :
    (mixStage P acc s).LAST_OUT = s.LAST_OUT := rfl
@[simp] theorem mixStage_sineLut (P : ParamSet) (acc : Int) (s : State) :
    (mixStage P acc s).sineLut = s.sineLut := rfl
@[simp] theorem mixStage_rst (P : ParamSet) (acc : Int) (s : State) :
    (mixStage P acc s).rst = s.rst := rfl
@[simp] theorem mixStage_inputs (P : ParamSet) (acc : Int) (s : State) :
    (mixStage P acc s).inputs = s.inputs := rfl
@[simp] theorem mixStage_responses (P : ParamSet) (acc : Int) (s : State) :
    (mixStage P acc s).responses = s.responses := rfl
@[simp] theorem mixStage_samples (P : ParamSet) (acc : Int) (s : State) :
    (mixStage P acc s).samples = s.samples := rfl

/-! ### `filterStage` -/

@[simp] theorem filterStage_voice (P : ParamSet) (m : Sample) (s : State) :
    (filterStage P m s).voice = s.voice := rfl
@[simp] theorem filterStage_shadow (P : ParamSet) (m : Sample) (s : State) :
    (filterStage P m s).shadow = s.shadow := rfl
@[simp] theorem filterStage_active (P : ParamSet) (m : Sample) (s : State) :
    (filterStage P m s).active = s.active := rfl
@[simp] theorem filterStage_PENDING (P : ParamSet) (m : Sample) (s : State) :
    (filterStage P m s).PENDING = s.PENDING := rfl
@[simp] theorem filterStage_x1 (P : ParamSet) (m : Sample) (s : State) :
    (filterStage P m s).x1 = m := rfl
@[simp] theorem filterStage_x2 (P : ParamSet) (m : Sample) (s : State) :
    (filterStage P m s).x2 = s.x1 := rfl
@[simp] theorem filterStage_y1 (P : ParamSet) (m : Sample) (s : State) :
    (filterStage P m s).y1 = filterY P m s := rfl
@[simp] theorem filterStage_y2 (P : ParamSet) (m : Sample) (s : State) :
    (filterStage P m s).y2 = s.y1 := rfl
@[simp] theorem filterStage_FILTER_EN (P : ParamSet) (m : Sample) (s : State) :
    (filterStage P m s).FILTER_EN = s.FILTER_EN := rfl
@[simp] theorem filterStage_IDLE_IE (P : ParamSet) (m : Sample) (s : State) :
    (filterStage P m s).IDLE_IE = s.IDLE_IE := rfl
@[simp] theorem filterStage_ERR_IE (P : ParamSet) (m : Sample) (s : State) :
    (filterStage P m s).ERR_IE = s.ERR_IE := rfl
@[simp] theorem filterStage_CLIP_IE (P : ParamSet) (m : Sample) (s : State) :
    (filterStage P m s).CLIP_IE = s.CLIP_IE := rfl
@[simp] theorem filterStage_ERR (P : ParamSet) (m : Sample) (s : State) :
    (filterStage P m s).ERR = s.ERR := rfl
@[simp] theorem filterStage_CLIP_MIX (P : ParamSet) (m : Sample) (s : State) :
    (filterStage P m s).CLIP_MIX = s.CLIP_MIX := rfl
@[simp] theorem filterStage_CLIP_FILT (P : ParamSet) (m : Sample) (s : State) :
    (filterStage P m s).CLIP_FILT = stick s.CLIP_FILT (filterClips P m s) := rfl
@[simp] theorem filterStage_ERR_INFO (P : ParamSet) (m : Sample) (s : State) :
    (filterStage P m s).ERR_INFO = s.ERR_INFO := rfl
@[simp] theorem filterStage_IDLE_EVENTS (P : ParamSet) (m : Sample) (s : State) :
    (filterStage P m s).IDLE_EVENTS = s.IDLE_EVENTS := rfl
@[simp] theorem filterStage_SAMPLE_COUNT (P : ParamSet) (m : Sample) (s : State) :
    (filterStage P m s).SAMPLE_COUNT = s.SAMPLE_COUNT := rfl
@[simp] theorem filterStage_MIX_OUT (P : ParamSet) (m : Sample) (s : State) :
    (filterStage P m s).MIX_OUT = s.MIX_OUT := rfl
@[simp] theorem filterStage_LAST_OUT (P : ParamSet) (m : Sample) (s : State) :
    (filterStage P m s).LAST_OUT = s.LAST_OUT := rfl
@[simp] theorem filterStage_sineLut (P : ParamSet) (m : Sample) (s : State) :
    (filterStage P m s).sineLut = s.sineLut := rfl
@[simp] theorem filterStage_rst (P : ParamSet) (m : Sample) (s : State) :
    (filterStage P m s).rst = s.rst := rfl
@[simp] theorem filterStage_inputs (P : ParamSet) (m : Sample) (s : State) :
    (filterStage P m s).inputs = s.inputs := rfl
@[simp] theorem filterStage_responses (P : ParamSet) (m : Sample) (s : State) :
    (filterStage P m s).responses = s.responses := rfl
@[simp] theorem filterStage_samples (P : ParamSet) (m : Sample) (s : State) :
    (filterStage P m s).samples = s.samples := rfl

/-! ### `outputStage` -/

@[simp] theorem outputStage_voice (s : State) :
    (outputStage s).voice = s.voice := rfl
@[simp] theorem outputStage_shadow (s : State) :
    (outputStage s).shadow = s.shadow := rfl
@[simp] theorem outputStage_active (s : State) :
    (outputStage s).active = s.active := rfl
@[simp] theorem outputStage_PENDING (s : State) :
    (outputStage s).PENDING = s.PENDING := rfl
@[simp] theorem outputStage_x1 (s : State) :
    (outputStage s).x1 = s.x1 := rfl
@[simp] theorem outputStage_x2 (s : State) :
    (outputStage s).x2 = s.x2 := rfl
@[simp] theorem outputStage_y1 (s : State) :
    (outputStage s).y1 = s.y1 := rfl
@[simp] theorem outputStage_y2 (s : State) :
    (outputStage s).y2 = s.y2 := rfl
@[simp] theorem outputStage_FILTER_EN (s : State) :
    (outputStage s).FILTER_EN = s.FILTER_EN := rfl
@[simp] theorem outputStage_IDLE_IE (s : State) :
    (outputStage s).IDLE_IE = s.IDLE_IE := rfl
@[simp] theorem outputStage_ERR_IE (s : State) :
    (outputStage s).ERR_IE = s.ERR_IE := rfl
@[simp] theorem outputStage_CLIP_IE (s : State) :
    (outputStage s).CLIP_IE = s.CLIP_IE := rfl
@[simp] theorem outputStage_ERR (s : State) :
    (outputStage s).ERR = s.ERR := rfl
@[simp] theorem outputStage_CLIP_MIX (s : State) :
    (outputStage s).CLIP_MIX = s.CLIP_MIX := rfl
@[simp] theorem outputStage_CLIP_FILT (s : State) :
    (outputStage s).CLIP_FILT = s.CLIP_FILT := rfl
@[simp] theorem outputStage_ERR_INFO (s : State) :
    (outputStage s).ERR_INFO = s.ERR_INFO := rfl
@[simp] theorem outputStage_IDLE_EVENTS (s : State) :
    (outputStage s).IDLE_EVENTS = s.IDLE_EVENTS := rfl
@[simp] theorem outputStage_SAMPLE_COUNT (s : State) :
    (outputStage s).SAMPLE_COUNT = s.SAMPLE_COUNT + 1 := rfl
@[simp] theorem outputStage_MIX_OUT (s : State) :
    (outputStage s).MIX_OUT = s.MIX_OUT := rfl
@[simp] theorem outputStage_LAST_OUT (s : State) :
    (outputStage s).LAST_OUT = (if s.FILTER_EN then s.y1 else s.MIX_OUT) := rfl
@[simp] theorem outputStage_sineLut (s : State) :
    (outputStage s).sineLut = s.sineLut := rfl
@[simp] theorem outputStage_rst (s : State) :
    (outputStage s).rst = s.rst := rfl
@[simp] theorem outputStage_inputs (s : State) :
    (outputStage s).inputs = s.inputs := rfl
@[simp] theorem outputStage_responses (s : State) :
    (outputStage s).responses = s.responses := rfl
@[simp] theorem outputStage_samples (s : State) :
    (outputStage s).samples = s.samples ++ [if s.FILTER_EN then s.y1 else s.MIX_OUT] := rfl

/-! ### `resetState` -/

@[simp] theorem resetState_voice (s : State) :
    (resetState s).voice = List.replicate s.n Voice.reset := rfl
@[simp] theorem resetState_shadow (s : State) :
    (resetState s).shadow = ParamSet.reset s.n := rfl
@[simp] theorem resetState_active (s : State) :
    (resetState s).active = ParamSet.reset s.n := rfl
@[simp] theorem resetState_PENDING (s : State) :
    (resetState s).PENDING = false := rfl
@[simp] theorem resetState_x1 (s : State) :
    (resetState s).x1 = 0#16 := rfl
@[simp] theorem resetState_x2 (s : State) :
    (resetState s).x2 = 0#16 := rfl
@[simp] theorem resetState_y1 (s : State) :
    (resetState s).y1 = 0#16 := rfl
@[simp] theorem resetState_y2 (s : State) :
    (resetState s).y2 = 0#16 := rfl
@[simp] theorem resetState_FILTER_EN (s : State) :
    (resetState s).FILTER_EN = false := rfl
@[simp] theorem resetState_IDLE_IE (s : State) :
    (resetState s).IDLE_IE = false := rfl
@[simp] theorem resetState_ERR_IE (s : State) :
    (resetState s).ERR_IE = false := rfl
@[simp] theorem resetState_CLIP_IE (s : State) :
    (resetState s).CLIP_IE = false := rfl
@[simp] theorem resetState_ERR (s : State) :
    (resetState s).ERR = false := rfl
@[simp] theorem resetState_CLIP_MIX (s : State) :
    (resetState s).CLIP_MIX = false := rfl
@[simp] theorem resetState_CLIP_FILT (s : State) :
    (resetState s).CLIP_FILT = false := rfl
@[simp] theorem resetState_ERR_INFO (s : State) :
    (resetState s).ERR_INFO = { CODE := 0, ADDR := 0, W := 0 } := rfl
@[simp] theorem resetState_IDLE_EVENTS (s : State) :
    (resetState s).IDLE_EVENTS = 0#16 := rfl
@[simp] theorem resetState_SAMPLE_COUNT (s : State) :
    (resetState s).SAMPLE_COUNT = 0#32 := rfl
@[simp] theorem resetState_MIX_OUT (s : State) :
    (resetState s).MIX_OUT = 0#16 := rfl
@[simp] theorem resetState_LAST_OUT (s : State) :
    (resetState s).LAST_OUT = 0#16 := rfl
@[simp] theorem resetState_sineLut (s : State) :
    (resetState s).sineLut = s.sineLut := rfl
@[simp] theorem resetState_rst (s : State) :
    (resetState s).rst = s.rst := rfl
@[simp] theorem resetState_inputs (s : State) :
    (resetState s).inputs = s.inputs := rfl
@[simp] theorem resetState_responses (s : State) :
    (resetState s).responses = s.responses := rfl
@[simp] theorem resetState_samples (s : State) :
    (resetState s).samples = s.samples := rfl

/-! ### `presentFirst` -/

@[simp] theorem presentFirst_voice (p : PortWord) (s : State) :
    (presentFirst p s).voice = s.voice := rfl
@[simp] theorem presentFirst_shadow (p : PortWord) (s : State) :
    (presentFirst p s).shadow = s.shadow := rfl
@[simp] theorem presentFirst_active (p : PortWord) (s : State) :
    (presentFirst p s).active = s.active := rfl
@[simp] theorem presentFirst_PENDING (p : PortWord) (s : State) :
    (presentFirst p s).PENDING = s.PENDING := rfl
@[simp] theorem presentFirst_x1 (p : PortWord) (s : State) :
    (presentFirst p s).x1 = s.x1 := rfl
@[simp] theorem presentFirst_x2 (p : PortWord) (s : State) :
    (presentFirst p s).x2 = s.x2 := rfl
@[simp] theorem presentFirst_y1 (p : PortWord) (s : State) :
    (presentFirst p s).y1 = s.y1 := rfl
@[simp] theorem presentFirst_y2 (p : PortWord) (s : State) :
    (presentFirst p s).y2 = s.y2 := rfl
@[simp] theorem presentFirst_FILTER_EN (p : PortWord) (s : State) :
    (presentFirst p s).FILTER_EN = s.FILTER_EN := rfl
@[simp] theorem presentFirst_IDLE_IE (p : PortWord) (s : State) :
    (presentFirst p s).IDLE_IE = s.IDLE_IE := rfl
@[simp] theorem presentFirst_ERR_IE (p : PortWord) (s : State) :
    (presentFirst p s).ERR_IE = s.ERR_IE := rfl
@[simp] theorem presentFirst_CLIP_IE (p : PortWord) (s : State) :
    (presentFirst p s).CLIP_IE = s.CLIP_IE := rfl
@[simp] theorem presentFirst_ERR (p : PortWord) (s : State) :
    (presentFirst p s).ERR = s.ERR := rfl
@[simp] theorem presentFirst_CLIP_MIX (p : PortWord) (s : State) :
    (presentFirst p s).CLIP_MIX = s.CLIP_MIX := rfl
@[simp] theorem presentFirst_CLIP_FILT (p : PortWord) (s : State) :
    (presentFirst p s).CLIP_FILT = s.CLIP_FILT := rfl
@[simp] theorem presentFirst_ERR_INFO (p : PortWord) (s : State) :
    (presentFirst p s).ERR_INFO = s.ERR_INFO := rfl
@[simp] theorem presentFirst_IDLE_EVENTS (p : PortWord) (s : State) :
    (presentFirst p s).IDLE_EVENTS = s.IDLE_EVENTS := rfl
@[simp] theorem presentFirst_SAMPLE_COUNT (p : PortWord) (s : State) :
    (presentFirst p s).SAMPLE_COUNT = s.SAMPLE_COUNT := rfl
@[simp] theorem presentFirst_MIX_OUT (p : PortWord) (s : State) :
    (presentFirst p s).MIX_OUT = s.MIX_OUT := rfl
@[simp] theorem presentFirst_LAST_OUT (p : PortWord) (s : State) :
    (presentFirst p s).LAST_OUT = s.LAST_OUT := rfl
@[simp] theorem presentFirst_sineLut (p : PortWord) (s : State) :
    (presentFirst p s).sineLut = s.sineLut := rfl
@[simp] theorem presentFirst_rst (p : PortWord) (s : State) :
    (presentFirst p s).rst = false := rfl
@[simp] theorem presentFirst_inputs (p : PortWord) (s : State) :
    (presentFirst p s).inputs = .port p :: s.inputs := rfl
@[simp] theorem presentFirst_responses (p : PortWord) (s : State) :
    (presentFirst p s).responses = s.responses := rfl
@[simp] theorem presentFirst_samples (p : PortWord) (s : State) :
    (presentFirst p s).samples = s.samples := rfl

/-! ### The tick, as its stages compose -/

@[simp] theorem tickState_voice (s : State) : (tickState s).voice = s.voice.map (tickVoice s.active) := rfl
@[simp] theorem tickState_shadow (s : State) : (tickState s).shadow = s.shadow := rfl
@[simp] theorem tickState_active (s : State) : (tickState s).active = s.active := rfl
@[simp] theorem tickState_PENDING (s : State) : (tickState s).PENDING = s.PENDING := rfl
@[simp] theorem tickState_FILTER_EN (s : State) : (tickState s).FILTER_EN = s.FILTER_EN := rfl
@[simp] theorem tickState_IDLE_IE (s : State) : (tickState s).IDLE_IE = s.IDLE_IE := rfl
@[simp] theorem tickState_ERR_IE (s : State) : (tickState s).ERR_IE = s.ERR_IE := rfl
@[simp] theorem tickState_CLIP_IE (s : State) : (tickState s).CLIP_IE = s.CLIP_IE := rfl
@[simp] theorem tickState_ERR (s : State) : (tickState s).ERR = s.ERR := rfl
@[simp] theorem tickState_ERR_INFO (s : State) : (tickState s).ERR_INFO = s.ERR_INFO := rfl
@[simp] theorem tickState_IDLE_EVENTS (s : State) : (tickState s).IDLE_EVENTS = s.IDLE_EVENTS ||| tickIdleEvents s := rfl
@[simp] theorem tickState_SAMPLE_COUNT (s : State) : (tickState s).SAMPLE_COUNT = s.SAMPLE_COUNT + 1 := rfl
@[simp] theorem tickState_sineLut (s : State) : (tickState s).sineLut = s.sineLut := rfl
@[simp] theorem tickState_rst (s : State) : (tickState s).rst = s.rst := rfl
@[simp] theorem tickState_inputs (s : State) : (tickState s).inputs = s.inputs := rfl
@[simp] theorem tickState_responses (s : State) : (tickState s).responses = s.responses := rfl
@[simp] theorem tickState_MIX_OUT (s : State) : (tickState s).MIX_OUT = mixM s.active (mixSum s) := rfl
@[simp] theorem tickState_CLIP_MIX (s : State) :
    (tickState s).CLIP_MIX = stick s.CLIP_MIX (mixClips s.active (mixSum s)) := rfl
@[simp] theorem tickState_x1 (s : State) : (tickState s).x1 = mixM s.active (mixSum s) := rfl
@[simp] theorem tickState_x2 (s : State) : (tickState s).x2 = s.x1 := rfl
@[simp] theorem tickState_y1 (s : State) : (tickState s).y1 = filterY s.active (mixM s.active (mixSum s)) s := rfl
@[simp] theorem tickState_y2 (s : State) : (tickState s).y2 = s.y1 := rfl
@[simp] theorem tickState_CLIP_FILT (s : State) :
    (tickState s).CLIP_FILT = stick s.CLIP_FILT (filterClips s.active (mixM s.active (mixSum s)) s) := rfl
@[simp] theorem tickState_LAST_OUT (s : State) :
    (tickState s).LAST_OUT =
      if s.FILTER_EN then filterY s.active (mixM s.active (mixSum s)) s else mixM s.active (mixSum s) := rfl
@[simp] theorem tickState_samples (s : State) : (tickState s).samples = s.samples ++ [(tickState s).LAST_OUT] := rfl

end Sys2Proof.Machine
end

