-- ==== Sys2Proof/Laws/Ops.lean ====
section
/-! SUPPORT. One lemma for each shared operation that says once everything it can do, and the inversion of a step. -/

namespace Sys2Proof.Machine

/-! ### Responses and voice operations -/

theorem respondOk_eq_next {d : Word} {s t : State} : respondOk d s = .next t ↔ t = respond .ok d s := by
  unfold respondOk
  constructor
  · intro h; injection h with h; exact h.symm
  · rintro rfl; rfl

theorem writeDone_eq_next {s t : State} : writeDone s = .next t ↔ t = respond .ok 0#32 s := respondOk_eq_next

/-- A voice operation on a voice there is, is its function of the voice. -/
theorem withVoice_of_some {v : BitVec 4} {w : BitVec 1} {off : Addr} {s : State} {f : Voice → Answer} {x : Voice}
    (h : s.voice[v.toNat]? = some x) : withVoice v w off s f = f x := by
  simp [withVoice, h]

/-- A voice operation on a voice there is not, is the error NO_VOICE. -/
theorem withVoice_of_le {v : BitVec 4} {w : BitVec 1} {off : Addr} {s : State} {f : Voice → Answer} (h : s.n ≤ v.toNat) :
    withVoice v w off s f = .next (raiseBusError .noVoice w (voiceAddr v off) s) := by
  have h' : s.voice[v.toNat]? = none := List.getElem?_eq_none_iff.2 h
  simp [withVoice, h']

/-- Everything a voice operation can do. -/
theorem withVoice_cases (v : BitVec 4) (w : BitVec 1) (off : Addr) (s : State) (f : Voice → Answer) :
    (∃ x, s.voice[v.toNat]? = some x ∧ withVoice v w off s f = f x) ∨
    (s.n ≤ v.toNat ∧ withVoice v w off s f = .next (raiseBusError .noVoice w (voiceAddr v off) s)) := by
  rcases Nat.lt_or_ge v.toNat s.n with h | h
  · exact .inl ⟨s.voice[v.toNat]'h, List.getElem?_eq_getElem h, withVoice_of_some (List.getElem?_eq_getElem h)⟩
  · exact .inr ⟨h, withVoice_of_le h⟩

theorem voice_exists {v : BitVec 4} {s : State} (h : v.toNat < s.n) : ∃ x, s.voice[v.toNat]? = some x :=
  ⟨s.voice[v.toNat]'h, List.getElem?_eq_getElem h⟩

@[simp] theorem setVoice_n (v : BitVec 4) (x : Voice) (s : State) : (setVoice v x s).n = s.n := by
  simp [State.n]

@[simp] theorem tickState_n (s : State) : (tickState s).n = s.n := by
  simp [State.n]

@[simp] theorem resetState_n (s : State) : (resetState s).n = s.n := by
  simp [State.n]

/-! ### The envelope step -/

/-- Everything a ramp step can do (R241 to R243). -/
theorem rampStep_cases (T : Level) (D : Ticks) (c : Voice → Voice) (x : Voice) :
    (x.k.toNat + 1 < D.toNat ∧ rampStep T D c x =
      { x with k := BitVec.ofNat 24 (x.k.toNat + 1), L := rampLevel x.S T (x.k.toNat + 1) D.toNat }) ∨
    (D.toNat ≤ x.k.toNat + 1 ∧ rampStep T D c x = c x) := by
  unfold rampStep
  by_cases h : x.k.toNat + 1 < D.toNat
  · exact .inl ⟨h, by simp [h]⟩
  · exact .inr ⟨by omega, by simp [h]⟩

theorem envStep_Attack {P : ParamSet} {x : Voice} (h : x.ph = .Attack) :
    envStep P x = rampStep levelOne P.ATTACK (attackDone P) x := by simp [envStep, h]

theorem envStep_Decay {P : ParamSet} {x : Voice} (h : x.ph = .Decay) :
    envStep P x = rampStep P.SUSTAIN P.DECAY (enterSustain P.SUSTAIN) x := by simp [envStep, h]

theorem envStep_Sustain {P : ParamSet} {x : Voice} (h : x.ph = .Sustain) :
    envStep P x = { x with k := sustainCount x.k, L := P.SUSTAIN } := by simp [envStep, h]

theorem envStep_Release {P : ParamSet} {x : Voice} (h : x.ph = .Release) :
    envStep P x = rampStep 0#16 P.RELEASE releaseDone x := by simp [envStep, h]

@[simp] theorem envStep_phase (P : ParamSet) (x : Voice) : (envStep P x).phase = x.phase := by
  unfold envStep rampStep attackDone enterSustain releaseDone
  cases x.ph <;> dsimp only <;> split <;> (try split) <;> rfl

@[simp] theorem envStep_pinc (P : ParamSet) (x : Voice) : (envStep P x).pinc = x.pinc := by
  unfold envStep rampStep attackDone enterSustain releaseDone
  cases x.ph <;> dsimp only <;> split <;> (try split) <;> rfl

@[simp] theorem envStep_wave (P : ParamSet) (x : Voice) : (envStep P x).wave = x.wave := by
  unfold envStep rampStep attackDone enterSustain releaseDone
  cases x.ph <;> dsimp only <;> split <;> (try split) <;> rfl

/-! ### The step -/

/-- Every operation answers a next state: nothing an operation meets stops the block (R301, R306, R307). -/
theorem exec_answers_next (i : Instr) (s : State) : ∃ t, exec i s = .next t := by
  have voiceOp : ∀ v w off (f : Voice → Answer), (∀ x, ∃ t, f x = .next t) → ∃ t, withVoice v w off s f = .next t := by
    intro v w off f hf
    rcases withVoice_cases v w off s f with ⟨x, -, h⟩ | ⟨-, h⟩
    · rw [h]; exact hf x
    · exact ⟨_, h⟩
  cases i
  case wrVPinc v d => exact voiceOp _ _ _ _ fun _ => ⟨_, rfl⟩
  case rdVPinc v => exact voiceOp _ _ _ _ fun _ => ⟨_, rfl⟩
  case wrVPhase v d => exact voiceOp _ _ _ _ fun _ => ⟨_, rfl⟩
  case rdVPhase v => exact voiceOp _ _ _ _ fun _ => ⟨_, rfl⟩
  case gateOn v => exact voiceOp _ _ _ _ fun _ => ⟨_, rfl⟩
  case gateOff v => exact voiceOp _ _ _ _ fun _ => ⟨_, rfl⟩
  case rdVEnv v => exact voiceOp _ _ _ _ fun _ => ⟨_, rfl⟩
  case rdVElapsed v => exact voiceOp _ _ _ _ fun _ => ⟨_, rfl⟩
  case rdVStart v => exact voiceOp _ _ _ _ fun _ => ⟨_, rfl⟩
  case rdVWave v => exact voiceOp _ _ _ _ fun _ => ⟨_, rfl⟩
  all_goals exact ⟨_, rfl⟩

/-- Everything a port word can do: it is lost, or it is an operation, or an error of a transaction, or no event. -/
theorem performPort_cases (p : PortWord) (s : State) :
    (s.rst = true ∧ performPort p s = .next s) ∨
    (s.rst = false ∧ ∃ i, decode s.n p = .op i ∧ performPort p s = exec i s) ∨
    (s.rst = false ∧ ∃ w c, p = .txn w ∧ decode s.n p = .error c ∧
      performPort p s = .next (raiseBusError c (txnW w) (txnAddr w) s)) ∨
    (s.rst = false ∧ p = .strobe 0#1 ∧ performPort p s = .next s) := by
  cases hr : s.rst
  · refine .inr ?_
    cases hd : decode s.n p with
    | op i => exact .inl ⟨rfl, i, rfl, by simp [performPort, hr, hd, performDecoded]⟩
    | error c =>
      cases p with
      | txn w => exact .inr (.inl ⟨rfl, w, c, rfl, rfl, by simp [performPort, hr, hd, performDecoded]⟩)
      | strobe b => simp only [decode] at hd; split at hd <;> cases hd
    | noEvent =>
      cases p with
      | txn w =>
        simp only [decode, decodeTxn, decodeFields] at hd
        split at hd
        · cases hd
        split at hd
        · cases hd
        split at hd
        · cases hd
        split at hd
        · split at hd
          · cases hd
          · split at hd <;> cases hd
        · split at hd <;> cases hd
      | strobe b =>
        refine .inr (.inr ⟨rfl, ?_, by simp [performPort, hr, hd, performDecoded]⟩)
        simp only [decode] at hd
        split at hd
        · cases hd
        · rename_i hb
          have : b = 0#1 := by
            revert hb; revert b; decide
          rw [this]
  · exact .inl ⟨rfl, by simp [performPort, hr]⟩

/-- Everything a step can do: nothing, or the next event of the schedule, on the state without it. -/
theorem step_cases (s : State) :
    (s.inputs = [] ∧ step s = .next s) ∨
    (∃ p rest, s.inputs = .port p :: rest ∧ step s = performPort p { s with inputs := rest }) ∨
    (∃ l rest, s.inputs = .rst l :: rest ∧ step s = .next (setRst l { s with inputs := rest })) ∨
    (∃ rest, s.inputs = .tickOverrun :: rest ∧ s.rst = true ∧ step s = .next { s with inputs := rest }) ∨
    (∃ rest, s.inputs = .tickOverrun :: rest ∧ s.rst = false ∧ step s = .fault .tickOverrun) := by
  cases h : s.inputs with
  | nil => exact .inl ⟨rfl, by simp [step, h]⟩
  | cons e rest =>
    refine .inr ?_
    cases e with
    | port p => exact .inl ⟨p, rest, rfl, by simp [step, h, performEvent]⟩
    | rst l => exact .inr (.inl ⟨l, rest, rfl, by simp [step, h, performEvent]⟩)
    | tickOverrun =>
      refine .inr (.inr ?_)
      cases hr : s.rst
      · exact .inr ⟨rest, rfl, rfl, by simp [step, h, performEvent, hr]⟩
      · exact .inl ⟨rest, rfl, rfl, by simp [step, h, performEvent, hr]⟩

/-- Everything the `rst` input can do. -/
theorem setRst_cases (l : Bool) (s : State) :
    (l = false ∧ s.rst = false ∧ setRst l s = s) ∨
    ((l = true ∨ s.rst = true) ∧ setRst l s = { resetState s with rst := l }) := by
  cases l <;> cases h : s.rst <;> simp [setRst, h]

end Sys2Proof.Machine
end

