-- ==== Sys2Proof/Laws/PerInstr.lean ====
section
/-! SUPPORT. Facts proved instruction by instruction: every operation on the bus port is encoded at a word-aligned address (20_memory.md
R70, R74). -/

namespace Sys2Proof.Laws

/-- The instruction's transaction word, if it is one, has ADDR[1:0] = 00 (R92). -/
def AlignedEncoding.Statement (i : Instr) : Prop := ∀ w, encode i = .txn w → addrAlign (txnAddr w) = 0#2

theorem aligned_of_txn {i : Instr} {w : BitVec 1} {a : Addr} {d : Word} (h : encode i = txn w a d)
    (ha : addrAlign a = 0#2) : AlignedEncoding.Statement i := by
  intro x hx
  rw [h] at hx
  simp only [txn, PortWord.txn.injEq] at hx
  rw [← hx, txnAddr_txnWord, ha]

theorem aligned_of_voice {i : Instr} {w : BitVec 1} {v : BitVec 4} {r : VoiceReg} {d : Word}
    (h : encode i = txn w (voiceAddr v r.offset) d) : AlignedEncoding.Statement i :=
  aligned_of_txn h (voiceAddr_fields v r).1

theorem AlignedEncoding.rdId : AlignedEncoding.Statement .rdId :=
  aligned_of_txn rfl rfl
theorem AlignedEncoding.rdConfig : AlignedEncoding.Statement .rdConfig :=
  aligned_of_txn rfl rfl
theorem AlignedEncoding.rdCtrl : AlignedEncoding.Statement .rdCtrl :=
  aligned_of_txn rfl rfl
theorem AlignedEncoding.wrCtrl (data : Word) : AlignedEncoding.Statement (.wrCtrl data) :=
  aligned_of_txn rfl rfl
theorem AlignedEncoding.rdStatus : AlignedEncoding.Statement .rdStatus :=
  aligned_of_txn rfl rfl
theorem AlignedEncoding.wrStatus (data : Word) : AlignedEncoding.Statement (.wrStatus data) :=
  aligned_of_txn rfl rfl
theorem AlignedEncoding.rdIrqEn : AlignedEncoding.Statement .rdIrqEn :=
  aligned_of_txn rfl rfl
theorem AlignedEncoding.wrIrqEn (data : Word) : AlignedEncoding.Statement (.wrIrqEn data) :=
  aligned_of_txn rfl rfl
theorem AlignedEncoding.commit : AlignedEncoding.Statement .commit :=
  aligned_of_txn rfl rfl
theorem AlignedEncoding.filterClear : AlignedEncoding.Statement .filterClear :=
  aligned_of_txn rfl rfl
theorem AlignedEncoding.softReset : AlignedEncoding.Statement .softReset :=
  aligned_of_txn rfl rfl
theorem AlignedEncoding.rdErrInfo : AlignedEncoding.Statement .rdErrInfo :=
  aligned_of_txn rfl rfl
theorem AlignedEncoding.rdIdleEvents : AlignedEncoding.Statement .rdIdleEvents :=
  aligned_of_txn rfl rfl
theorem AlignedEncoding.wrIdleEvents (data : Word) : AlignedEncoding.Statement (.wrIdleEvents data) :=
  aligned_of_txn rfl rfl
theorem AlignedEncoding.rdActiveMask : AlignedEncoding.Statement .rdActiveMask :=
  aligned_of_txn rfl rfl
theorem AlignedEncoding.rdActiveCount : AlignedEncoding.Statement .rdActiveCount :=
  aligned_of_txn rfl rfl
theorem AlignedEncoding.rdSampleCount : AlignedEncoding.Statement .rdSampleCount :=
  aligned_of_txn rfl rfl
theorem AlignedEncoding.rdMixOut : AlignedEncoding.Statement .rdMixOut :=
  aligned_of_txn rfl rfl
theorem AlignedEncoding.rdLastOut : AlignedEncoding.Statement .rdLastOut :=
  aligned_of_txn rfl rfl
theorem AlignedEncoding.wrB0 (data : Word) : AlignedEncoding.Statement (.wrB0 data) :=
  aligned_of_txn rfl rfl
theorem AlignedEncoding.wrB1 (data : Word) : AlignedEncoding.Statement (.wrB1 data) :=
  aligned_of_txn rfl rfl
theorem AlignedEncoding.wrB2 (data : Word) : AlignedEncoding.Statement (.wrB2 data) :=
  aligned_of_txn rfl rfl
theorem AlignedEncoding.wrA1 (data : Word) : AlignedEncoding.Statement (.wrA1 data) :=
  aligned_of_txn rfl rfl
theorem AlignedEncoding.wrA2 (data : Word) : AlignedEncoding.Statement (.wrA2 data) :=
  aligned_of_txn rfl rfl
theorem AlignedEncoding.wrAttack (data : Word) : AlignedEncoding.Statement (.wrAttack data) :=
  aligned_of_txn rfl rfl
theorem AlignedEncoding.wrDecay (data : Word) : AlignedEncoding.Statement (.wrDecay data) :=
  aligned_of_txn rfl rfl
theorem AlignedEncoding.wrRelease (data : Word) : AlignedEncoding.Statement (.wrRelease data) :=
  aligned_of_txn rfl rfl
theorem AlignedEncoding.wrSustain (data : Word) : AlignedEncoding.Statement (.wrSustain data) :=
  aligned_of_txn rfl rfl
theorem AlignedEncoding.wrMixGain (data : Word) : AlignedEncoding.Statement (.wrMixGain data) :=
  aligned_of_txn rfl rfl
theorem AlignedEncoding.wrWaveform (data : Word) : AlignedEncoding.Statement (.wrWaveform data) :=
  aligned_of_txn rfl rfl
theorem AlignedEncoding.rdB0 : AlignedEncoding.Statement .rdB0 :=
  aligned_of_txn rfl rfl
theorem AlignedEncoding.rdB1 : AlignedEncoding.Statement .rdB1 :=
  aligned_of_txn rfl rfl
theorem AlignedEncoding.rdB2 : AlignedEncoding.Statement .rdB2 :=
  aligned_of_txn rfl rfl
theorem AlignedEncoding.rdA1 : AlignedEncoding.Statement .rdA1 :=
  aligned_of_txn rfl rfl
theorem AlignedEncoding.rdA2 : AlignedEncoding.Statement .rdA2 :=
  aligned_of_txn rfl rfl
theorem AlignedEncoding.rdAttack : AlignedEncoding.Statement .rdAttack :=
  aligned_of_txn rfl rfl
theorem AlignedEncoding.rdDecay : AlignedEncoding.Statement .rdDecay :=
  aligned_of_txn rfl rfl
theorem AlignedEncoding.rdRelease : AlignedEncoding.Statement .rdRelease :=
  aligned_of_txn rfl rfl
theorem AlignedEncoding.rdSustain : AlignedEncoding.Statement .rdSustain :=
  aligned_of_txn rfl rfl
theorem AlignedEncoding.rdMixGain : AlignedEncoding.Statement .rdMixGain :=
  aligned_of_txn rfl rfl
theorem AlignedEncoding.rdWaveform : AlignedEncoding.Statement .rdWaveform :=
  aligned_of_txn rfl rfl
theorem AlignedEncoding.rdX1 : AlignedEncoding.Statement .rdX1 :=
  aligned_of_txn rfl rfl
theorem AlignedEncoding.rdX2 : AlignedEncoding.Statement .rdX2 :=
  aligned_of_txn rfl rfl
theorem AlignedEncoding.rdY1 : AlignedEncoding.Statement .rdY1 :=
  aligned_of_txn rfl rfl
theorem AlignedEncoding.rdY2 : AlignedEncoding.Statement .rdY2 :=
  aligned_of_txn rfl rfl
theorem AlignedEncoding.rdActB0 : AlignedEncoding.Statement .rdActB0 :=
  aligned_of_txn rfl rfl
theorem AlignedEncoding.rdActB1 : AlignedEncoding.Statement .rdActB1 :=
  aligned_of_txn rfl rfl
theorem AlignedEncoding.rdActB2 : AlignedEncoding.Statement .rdActB2 :=
  aligned_of_txn rfl rfl
theorem AlignedEncoding.rdActA1 : AlignedEncoding.Statement .rdActA1 :=
  aligned_of_txn rfl rfl
theorem AlignedEncoding.rdActA2 : AlignedEncoding.Statement .rdActA2 :=
  aligned_of_txn rfl rfl
theorem AlignedEncoding.rdActAttack : AlignedEncoding.Statement .rdActAttack :=
  aligned_of_txn rfl rfl
theorem AlignedEncoding.rdActDecay : AlignedEncoding.Statement .rdActDecay :=
  aligned_of_txn rfl rfl
theorem AlignedEncoding.rdActRelease : AlignedEncoding.Statement .rdActRelease :=
  aligned_of_txn rfl rfl
theorem AlignedEncoding.rdActSustain : AlignedEncoding.Statement .rdActSustain :=
  aligned_of_txn rfl rfl
theorem AlignedEncoding.rdActMixGain : AlignedEncoding.Statement .rdActMixGain :=
  aligned_of_txn rfl rfl
theorem AlignedEncoding.rdActWaveform : AlignedEncoding.Statement .rdActWaveform :=
  aligned_of_txn rfl rfl
theorem AlignedEncoding.wrVPinc (v : BitVec 4) (data : Word) : AlignedEncoding.Statement (.wrVPinc v data) :=
  aligned_of_voice (r := .V_PINC) rfl
theorem AlignedEncoding.rdVPinc (v : BitVec 4) : AlignedEncoding.Statement (.rdVPinc v) :=
  aligned_of_voice (r := .V_PINC) rfl
theorem AlignedEncoding.wrVPhase (v : BitVec 4) (data : Word) : AlignedEncoding.Statement (.wrVPhase v data) :=
  aligned_of_voice (r := .V_PHASE) rfl
theorem AlignedEncoding.rdVPhase (v : BitVec 4) : AlignedEncoding.Statement (.rdVPhase v) :=
  aligned_of_voice (r := .V_PHASE) rfl
theorem AlignedEncoding.gateOn (v : BitVec 4) : AlignedEncoding.Statement (.gateOn v) :=
  aligned_of_voice (r := .V_VCMD) rfl
theorem AlignedEncoding.gateOff (v : BitVec 4) : AlignedEncoding.Statement (.gateOff v) :=
  aligned_of_voice (r := .V_VCMD) rfl
theorem AlignedEncoding.rdVEnv (v : BitVec 4) : AlignedEncoding.Statement (.rdVEnv v) :=
  aligned_of_voice (r := .V_ENV) rfl
theorem AlignedEncoding.rdVElapsed (v : BitVec 4) : AlignedEncoding.Statement (.rdVElapsed v) :=
  aligned_of_voice (r := .V_ELAPSED) rfl
theorem AlignedEncoding.rdVStart (v : BitVec 4) : AlignedEncoding.Statement (.rdVStart v) :=
  aligned_of_voice (r := .V_START) rfl
theorem AlignedEncoding.rdVWave (v : BitVec 4) : AlignedEncoding.Statement (.rdVWave v) :=
  aligned_of_voice (r := .V_WAVE) rfl
theorem AlignedEncoding.tick : AlignedEncoding.Statement .tick :=
  fun _ h => by simp [encode] at h

end Sys2Proof.Laws
end

