-- ==== Sys2Proof/Laws/Runs.lean ====
section
/-! SUPPORT. Runs of operations: the equations of `execAll` and `ticks`, what a run of TICKs does to a voice, and the induction over
a run of TICKs, packaged once. -/

namespace Sys2Proof.Machine

@[simp] theorem execAll_nil (s : State) : execAll [] s = .next s := rfl

theorem execAll_cons_of_next {i : Instr} {is : List Instr} {s t : State} (h : exec i s = .next t) :
    execAll (i :: is) s = execAll is t := by
  simp only [execAll, h]

@[simp] theorem exec_tick (s : State) : exec .tick s = .next (tickState s) := rfl

@[simp] theorem ticks_zero (s : State) : ticks 0 s = .next s := rfl

/-- The first TICK of a run, then the rest. -/
theorem ticks_succ (j : Nat) (s : State) : ticks (j + 1) s = ticks j (tickState s) :=
  execAll_cons_of_next (exec_tick s)

/-- j TICKs are j iterations of one TICK. -/
theorem ticks_eq_iterate (j : Nat) (s : State) : ticks j s = .next (tickState^[j] s) := by
  induction j generalizing s with
  | zero => rfl
  | succ j ih => rw [ticks_succ, ih, Function.iterate_succ_apply]

/-- A property of the count and the state that a TICK carries on holds after every run of TICKs. -/
theorem ticks_induction {P : Nat → State → Prop} {s : State} (h0 : P 0 s)
    (hstep : ∀ j u, P j u → P (j + 1) (tickState u)) (j : Nat) : ∃ u, ticks j s = .next u ∧ P j u := by
  refine ⟨tickState^[j] s, ticks_eq_iterate j s, ?_⟩
  induction j with
  | zero => exact h0
  | succ j ih => rw [Function.iterate_succ_apply']; exact hstep j _ ih

/-- A voice after a TICK is that voice's own step. -/
theorem tickState_getElem? {s : State} {v : Nat} {x : Voice} (h : s.voice[v]? = some x) :
    (tickState s).voice[v]? = some (tickVoice s.active x) := by
  simp [h]

end Sys2Proof.Machine
end

