-- ==== Sys2Proof/Machine/ProgramText.lean ====
section
/-! DEFINITION. Reading the textual program form (30_encoding.md R102, R103): one statement a line, `;` starts a comment, a value is
decimal, hex `0x…` or a negative decimal, a voice register is `V<v>.<NAME>`. A text that is not of the form is no program (log entry
19). -/

namespace Sys2Proof.Machine

/-- The text of a line before its comment. -/
def withoutComment (line : List Char) : List Char := line.takeWhile (fun c => c != ';')

/-- One character in front of the tokens read so far: the unfinished word and the tokens after it. A comma and an equals sign are
tokens of their own, and blanks separate. -/
def addChar (c : Char) (st : List Char × List (List Char)) : List Char × List (List Char) :=
  let done := if st.1.isEmpty then st.2 else st.1 :: st.2
  if c == ' ' || c == '\t' || c == '\r' then ([], done)
  else if c == ',' || c == '=' then ([], [c] :: done)
  else (c :: st.1, st.2)

/-- The tokens of a line. -/
def tokens (line : List Char) : List (List Char) :=
  let st := (withoutComment line).foldr addChar ([], [])
  if st.1.isEmpty then st.2 else st.1 :: st.2

/-- The lines of a text. -/
def textLines (text : List Char) : List (List Char) :=
  let st := text.foldr (fun c (st : List Char × List (List Char)) => if c == '\n' then ([], st.1 :: st.2) else (c :: st.1, st.2))
    ([], [])
  st.1 :: st.2

/-- The value of a digit in base 10 or 16. -/
def digitOf (base : Nat) (c : Char) : Option Nat :=
  let d := if '0' ≤ c && c ≤ '9' then c.toNat - 48
    else if 'a' ≤ c && c ≤ 'f' then c.toNat - 87
    else if 'A' ≤ c && c ≤ 'F' then c.toNat - 55
    else base
  if d < base then some d else none

/-- A number written as digits, the most significant first, after the value `acc` of the digits before them. -/
def digitsFrom (base : Nat) : List Char → Nat → Option Nat
  | [], acc => some acc
  | c :: cs, acc => (digitOf base c).bind (fun d => digitsFrom base cs (base * acc + d))

/-- A number of at least one digit. -/
def digitsValue (base : Nat) (cs : List Char) : Option Nat := if cs.isEmpty then none else digitsFrom base cs 0

/-- An unsigned number: decimal, or hex with `0x`. -/
def natOfText : List Char → Option Nat
  | '0' :: 'x' :: ds => digitsValue 16 ds
  | ds => digitsValue 10 ds

/-- A value (R102), one that a 32-bit word holds. -/
def valueOfText : List Char → Option Int
  | '-' :: ds => (digitsValue 10 ds).bind (fun m => if m ≤ 2 ^ 31 then some (-(m : Int)) else none)
  | ds => (natOfText ds).bind (fun m => if m < 2 ^ 32 then some (m : Int) else none)

/-- A voice index, one the field VIDX holds (R92). R102 gives hex to a value only and is silent on an index: that it is read as decimal
only is a DESIGN CHOICE (log entry 19). -/
def voiceOfText (cs : List Char) : Option (BitVec 4) :=
  (digitsValue 10 cs).bind (fun m => if m < 16 then some (BitVec.ofNat 4 m) else none)

/-- The name of a parameter (R29, R46). -/
def paramNames : List (String × Param) :=
  [("B0", .B0), ("B1", .B1), ("B2", .B2), ("A1", .A1), ("A2", .A2), ("ATTACK", .ATTACK), ("DECAY", .DECAY), ("RELEASE", .RELEASE),
   ("SUSTAIN", .SUSTAIN), ("MIX_GAIN", .MIX_GAIN), ("WAVEFORM", .WAVEFORM)]

/-- The names of the other registers of the global half (R46). -/
def globalNames : List (String × Reg) :=
  [("ID", .ID), ("CONFIG", .CONFIG), ("CTRL", .CTRL), ("STATUS", .STATUS), ("IRQ_EN", .IRQ_EN), ("COMMAND", .COMMAND),
   ("ERR_INFO", .ERR_INFO), ("IDLE_EVENTS", .IDLE_EVENTS), ("ACTIVE_MASK", .ACTIVE_MASK), ("ACTIVE_COUNT", .ACTIVE_COUNT),
   ("SAMPLE_COUNT", .SAMPLE_COUNT), ("MIX_OUT", .MIX_OUT), ("LAST_OUT", .LAST_OUT), ("X1", .X1), ("X2", .X2), ("Y1", .Y1), ("Y2", .Y2)]

/-- The names of the registers of a voice window, without the `V_` (R102). -/
def voiceRegNames : List (String × VoiceReg) :=
  [("PINC", .V_PINC), ("PHASE", .V_PHASE), ("VCMD", .V_VCMD), ("ENV", .V_ENV), ("ELAPSED", .V_ELAPSED), ("START", .V_START),
   ("WAVE", .V_WAVE)]

/-- What a list of names gives a text. -/
def lookupName {α : Type} (names : List (String × α)) (cs : List Char) : Option α :=
  (names.find? (fun p => p.1.toList == cs)).map (fun p => p.2)

/-- A parameter's name read. -/
def paramOfText (cs : List Char) : Option Param := lookupName paramNames cs

/-- A voice register's name after its `V`: `<v>.<NAME>`. -/
def voiceRegOfText (cs : List Char) : Option Reg :=
  (voiceOfText (cs.takeWhile (fun c => c != '.'))).bind (fun v =>
    (lookupName voiceRegNames ((cs.dropWhile (fun c => c != '.')).drop 1)).map (fun r => .voice v r))

/-- A register's name read (R46, R102). -/
def regOfText : List Char → Option Reg
  | 'V' :: rest => voiceRegOfText rest
  | 'A' :: 'C' :: 'T' :: '_' :: rest => (paramOfText rest).map .act
  | cs => ((paramOfText cs).map Reg.shadow).orElse (fun _ => lookupName globalNames cs)

/-- The assignments of a PUBLISH, separated by commas (R103). -/
def publishOfTokens : List (List Char) → Option (List (Param × Int))
  | [p, ['='], x] => (paramOfText p).bind (fun q => (valueOfText x).map (fun n => [(q, n)]))
  | p :: ['='] :: x :: [','] :: rest =>
    (paramOfText p).bind (fun q => (valueOfText x).bind (fun n => (publishOfTokens rest).map (fun l => (q, n) :: l)))
  | _ => none

/-- A line of one word. -/
def lineOfWord (op : List Char) : Option (List Statement) :=
  lookupName
    [("TICK", [Statement.tick 1]), ("COMMIT", expandPseudo .commit), ("FILTER_CLEAR", expandPseudo .filterClear),
     ("SOFT_RESET", expandPseudo .softReset), ("ACK_ERR", expandPseudo .ackErr), ("ACK_CLIP", expandPseudo .ackClip)] op

/-- A line of a word and one operand. R102 gives hex to a value only and is silent on the count of `TICK <n>`: that it is read as
decimal only, and may be 0, is a DESIGN CHOICE (log entry 19). -/
def lineOfOperand (op x : List Char) : Option (List Statement) :=
  (lookupName
    [("RD", (regOfText x).map (fun r => [Statement.rd r])),
     ("TICK", (digitsValue 10 x).map (fun n => [Statement.tick n])),
     ("GATE_ON", (voiceOfText x).map (fun v => expandPseudo (.gateOn v))),
     ("GATE_OFF", (voiceOfText x).map (fun v => expandPseudo (.gateOff v))),
     ("ACK_IDLE", (voiceOfText x).map (fun v => expandPseudo (.ackIdle v)))] op).bind id

/-- A line of a word and two operands with a comma between them. -/
def lineOfOperands (op x y : List Char) : Option (List Statement) :=
  (lookupName
    [("WR", (regOfText x).bind (fun r => (valueOfText y).map (fun n => [Statement.wr r n]))),
     ("NOTE_ON", (voiceOfText x).bind (fun v => (valueOfText y).map (fun n => expandPseudo (.noteOn v n))))] op).bind id

/-- The statements of one line, a pseudo-instruction expanded (R103): none where the line has another form. -/
def statementsOfTokens : List (List Char) → Option (List Statement)
  | [] => some []
  | [op] => lineOfWord op
  | [op, x] => lineOfOperand op x
  | [op, x, [','], y] => lineOfOperands op x y
  | op :: rest => if op == "PUBLISH".toList then (publishOfTokens rest).map (fun l => expandPseudo (.publish l)) else none

/-- The statements of the lines of a text. -/
def statementsOfLines : List (List Char) → Option (List Statement)
  | [] => some []
  | l :: ls => (statementsOfTokens (tokens l)).bind (fun a => (statementsOfLines ls).map (fun b => a ++ b))

/-- The program a text stands for (R102). -/
def programOfText (text : String) : Option (List Statement) := statementsOfLines (textLines text.toList)

end Sys2Proof.Machine
end

