-- ==== Sys2Proof/Tests/Slice0.lean ====
section
/-! SUPPORT. The model's own tests. Expected values are the spec's: the examples of the rules and the vectors of 95_test_vectors.md.
Each witness meets the hypotheses of the statement it is named after. -/

namespace Sys2Proof.Tests

open Sys2Proof.Machine

/-- The reset state with N = 4, the start state of 95_test_vectors.md. -/
def st4 : State := State.resetOf { n := 4, sineLut := .standard }

/-- The reset state with N = 8. -/
def st8 : State := State.resetOf { n := 8, sineLut := .standard }

/-- The start state of V-BUS-9: x1 = 5, x2 = -6, y1 = 7, y2 = -8. -/
def stHist : State := { st4 with x1 := 5#16, x2 := 0xFFFA#16, y1 := 7#16, y2 := 0xFFF8#16 }

/-- An Idle voice, as after reset. -/
def vIdle : Voice := { ph := .Idle, L := 0#16, S := 0#16, k := 0#24, phase := 0#32, pinc := 0#32, wave := 0#2 }

/-- A voice in Release at L = 10240, three ticks into a ramp of 8 from 16384 (program P4). -/
def vRel : Voice := { vIdle with ph := .Release, L := 10240#16, S := 16384#16, k := 3#24, wave := 1#2 }

/-- The voice at the end of program P4: Decay, L = 0x6800, k = 1, S = 0x8000, a square. -/
def vDec : Voice := { vIdle with ph := .Decay, L := 0x6800#16, S := 0x8000#16, k := 1#24, wave := 1#2 }

/-- Voice 0 in Attack. -/
def stA : State := { st4 with voice := st4.voice.set 0 { vIdle with ph := .Attack } }

/-- Voices 0 and 2 in Attack (V-BUS-14). -/
def stA02 : State := { stA with voice := stA.voice.set 2 { vIdle with ph := .Attack } }

/-- Voice 0 in Release, RELEASE = 4: its next TICK completes. -/
def stR : State := { st4 with voice := st4.voice.set 0 vRel, active := { st4.active with RELEASE := 4#24 }, shadow := { st4.shadow with RELEASE := 4#24 } }

/-- Every sticky flag set, and the event of voice 3, all interrupts enabled. -/
def stFlags : State :=
  { st4 with
    ERR := true, CLIP_MIX := true, CLIP_FILT := true, IDLE_EVENTS := 8#16, IDLE_IE := true, ERR_IE := true, CLIP_IE := true }

/-- A state whose next event is a TICK. -/
def stTickNext : State := { stR with inputs := [.port (.strobe 1#1)] }

/-- DECAY = 4, ATTACK = 2. -/
def stDecay : State :=
  { st4 with active := { st4.active with DECAY := 4#24, ATTACK := 2#24 }, shadow := { st4.shadow with DECAY := 4#24, ATTACK := 2#24 } }

/-- `c` squares at full level with the gain `g` (47_mixer_output.md section 3). -/
def stSquares (c : Nat) (g : BitVec 16) : State :=
  { st4 with
    voice := List.replicate c { vIdle with ph := .Sustain, L := 0x8000#16, wave := 1#2 }
    active := { st4.active with MIX_GAIN := g } }

/-- `c` sawtooths at full level with the gain `g`. -/
def stSaws (c : Nat) (g : BitVec 16) : State :=
  { stSquares c g with voice := List.replicate c { vIdle with ph := .Sustain, L := 0x8000#16, wave := 3#2 } }

/-- A field of an answer's next state. -/
def field {α : Type} (a : Answer) (f : State → α) : Option α :=
  match a with
  | .next s => some (f s)
  | .fault _ => none
  | .refused _ => none

/-- The last response of an answer's next state. -/
def answer (a : Answer) : Option Response := (field a (fun s => s.responses.getLast?)).join

/-- The events `es`, one step each. -/
def run (es : List Event) (s : State) : Answer := Sys2Proof.core.run es.length { s with inputs := es }

/-- MIX_OUT and CLIP_MIX after a TICK. -/
def mixOutOf (s : State) : Option (Int × Bool) := field (exec .tick s) (fun t => (t.MIX_OUT.toInt, t.CLIP_MIX))

/-- The filter's output for the input `m` from zero history with B0 alone. -/
def filterOut (b0 : Word) (m : Int) : Int := (filterY { st4.active with B0 := b0 } (BitVec.ofInt 16 m) st4).toInt

/-- The filter's output and flag for the input `m` from zero history with B0 alone. -/
def filtOutOf (b0 : Word) (m : Sample) : Option (Int × Bool) :=
  let s := filterStage { st4.active with B0 := b0 } m st4
  some (s.y1.toInt, s.CLIP_FILT)

/-! ### Well-formedness refuses each ill-formed term -/

/-- R92: VIDX must be below N. -/
theorem test_wf_voice_index :
    Instr.wf 4 (.gateOn 4#4) = false ∧ Instr.wf 4 (.gateOn 3#4) = true := by decide

/-- R8: 1 ≤ N ≤ 16. -/
theorem test_wf_voice_count :
    Config.wf { n := 0, sineLut := .standard } = false ∧ Config.wf { n := 17, sineLut := .standard } = false ∧
    Config.wf { n := 1, sineLut := .standard } = true ∧ Config.wf { n := 16, sineLut := .standard } = true := by decide

/-- R262: 1024 entries. -/
theorem test_wf_table_length :
    SineTable.wf (.custom [0#16]) = false ∧ SineTable.wf (.custom (List.replicate 1024 0x7FFF#16)) = true := by decide +kernel

/-- R262: -32768 is excluded. -/
theorem test_wf_table_entry :
    SineTable.wf (.custom (0x8000#16 :: List.replicate 1023 0#16)) = false := by decide +kernel

/-! ### Every constructor's word, written out from R98 and the rules' examples, decodes to it (N = 4) -/

theorem test_decode_rdId :
    decode 4 (.txn 0x00000000000#43) = .op .rdId := by decide

theorem test_decode_rdConfig :
    decode 4 (.txn 0x00400000000#43) = .op .rdConfig := by decide

theorem test_decode_rdCtrl :
    decode 4 (.txn 0x00800000000#43) = .op .rdCtrl := by decide

theorem test_decode_wrCtrl :
    decode 4 (.txn 0x40800000001#43) = .op (.wrCtrl 1#32) := by decide

theorem test_decode_rdStatus :
    decode 4 (.txn 0x00C00000000#43) = .op .rdStatus := by decide

theorem test_decode_wrStatus :
    decode 4 (.txn 0x40C00000001#43) = .op (.wrStatus 1#32) := by decide

theorem test_decode_rdIrqEn :
    decode 4 (.txn 0x01000000000#43) = .op .rdIrqEn := by decide

theorem test_decode_wrIrqEn :
    decode 4 (.txn 0x41000000007#43) = .op (.wrIrqEn 7#32) := by decide

theorem test_decode_commit :
    decode 4 (.txn 0x41400000001#43) = .op .commit := by decide

theorem test_decode_filterClear :
    decode 4 (.txn 0x41400000002#43) = .op .filterClear := by decide

theorem test_decode_softReset :
    decode 4 (.txn 0x41400000003#43) = .op .softReset := by decide

theorem test_decode_rdErrInfo :
    decode 4 (.txn 0x01800000000#43) = .op .rdErrInfo := by decide

theorem test_decode_rdIdleEvents :
    decode 4 (.txn 0x01C00000000#43) = .op .rdIdleEvents := by decide

theorem test_decode_wrIdleEvents :
    decode 4 (.txn 0x41C00000001#43) = .op (.wrIdleEvents 1#32) := by decide

theorem test_decode_rdActiveMask :
    decode 4 (.txn 0x02000000000#43) = .op .rdActiveMask := by decide

theorem test_decode_rdActiveCount :
    decode 4 (.txn 0x02400000000#43) = .op .rdActiveCount := by decide

theorem test_decode_rdSampleCount :
    decode 4 (.txn 0x02800000000#43) = .op .rdSampleCount := by decide

theorem test_decode_rdMixOut :
    decode 4 (.txn 0x02C00000000#43) = .op .rdMixOut := by decide

theorem test_decode_rdLastOut :
    decode 4 (.txn 0x03000000000#43) = .op .rdLastOut := by decide

theorem test_decode_wrB0 :
    decode 4 (.txn 0x44020000000#43) = .op (.wrB0 0x20000000#32) := by decide

theorem test_decode_wrB1 :
    decode 4 (.txn 0x444FFFFFFFF#43) = .op (.wrB1 0xFFFFFFFF#32) := by decide

theorem test_decode_wrB2 :
    decode 4 (.txn 0x44840000000#43) = .op (.wrB2 0x40000000#32) := by decide

theorem test_decode_wrA1 :
    decode 4 (.txn 0x44CE0000000#43) = .op (.wrA1 0xE0000000#32) := by decide

theorem test_decode_wrA2 :
    decode 4 (.txn 0x45080000000#43) = .op (.wrA2 0x80000000#32) := by decide

theorem test_decode_wrAttack :
    decode 4 (.txn 0x454FF123456#43) = .op (.wrAttack 0xFF123456#32) := by decide

theorem test_decode_wrDecay :
    decode 4 (.txn 0x45800000004#43) = .op (.wrDecay 0x00000004#32) := by decide

theorem test_decode_wrRelease :
    decode 4 (.txn 0x45C01000000#43) = .op (.wrRelease 0x01000000#32) := by decide

theorem test_decode_wrSustain :
    decode 4 (.txn 0x4601234FFFF#43) = .op (.wrSustain 0x1234FFFF#32) := by decide

theorem test_decode_wrMixGain :
    decode 4 (.txn 0x46400014000#43) = .op (.wrMixGain 0x00014000#32) := by decide

theorem test_decode_wrWaveform :
    decode 4 (.txn 0x468FFFFFFFE#43) = .op (.wrWaveform 0xFFFFFFFE#32) := by decide

theorem test_decode_rdB0 :
    decode 4 (.txn 0x04000000000#43) = .op .rdB0 := by decide

theorem test_decode_rdB1 :
    decode 4 (.txn 0x04400000000#43) = .op .rdB1 := by decide

theorem test_decode_rdB2 :
    decode 4 (.txn 0x04800000000#43) = .op .rdB2 := by decide

theorem test_decode_rdA1 :
    decode 4 (.txn 0x04C00000000#43) = .op .rdA1 := by decide

theorem test_decode_rdA2 :
    decode 4 (.txn 0x05000000000#43) = .op .rdA2 := by decide

theorem test_decode_rdAttack :
    decode 4 (.txn 0x05400000000#43) = .op .rdAttack := by decide

theorem test_decode_rdDecay :
    decode 4 (.txn 0x05800000000#43) = .op .rdDecay := by decide

theorem test_decode_rdRelease :
    decode 4 (.txn 0x05C00000000#43) = .op .rdRelease := by decide

theorem test_decode_rdSustain :
    decode 4 (.txn 0x06000000000#43) = .op .rdSustain := by decide

theorem test_decode_rdMixGain :
    decode 4 (.txn 0x06400000000#43) = .op .rdMixGain := by decide

theorem test_decode_rdWaveform :
    decode 4 (.txn 0x06800000000#43) = .op .rdWaveform := by decide

theorem test_decode_rdX1 :
    decode 4 (.txn 0x08000000000#43) = .op .rdX1 := by decide

theorem test_decode_rdX2 :
    decode 4 (.txn 0x08400000000#43) = .op .rdX2 := by decide

theorem test_decode_rdY1 :
    decode 4 (.txn 0x08800000000#43) = .op .rdY1 := by decide

theorem test_decode_rdY2 :
    decode 4 (.txn 0x08C00000000#43) = .op .rdY2 := by decide

theorem test_decode_rdActB0 :
    decode 4 (.txn 0x0C000000000#43) = .op .rdActB0 := by decide

theorem test_decode_rdActB1 :
    decode 4 (.txn 0x0C400000000#43) = .op .rdActB1 := by decide

theorem test_decode_rdActB2 :
    decode 4 (.txn 0x0C800000000#43) = .op .rdActB2 := by decide

theorem test_decode_rdActA1 :
    decode 4 (.txn 0x0CC00000000#43) = .op .rdActA1 := by decide

theorem test_decode_rdActA2 :
    decode 4 (.txn 0x0D000000000#43) = .op .rdActA2 := by decide

theorem test_decode_rdActAttack :
    decode 4 (.txn 0x0D400000000#43) = .op .rdActAttack := by decide

theorem test_decode_rdActDecay :
    decode 4 (.txn 0x0D800000000#43) = .op .rdActDecay := by decide

theorem test_decode_rdActRelease :
    decode 4 (.txn 0x0DC00000000#43) = .op .rdActRelease := by decide

theorem test_decode_rdActSustain :
    decode 4 (.txn 0x0E000000000#43) = .op .rdActSustain := by decide

theorem test_decode_rdActMixGain :
    decode 4 (.txn 0x0E400000000#43) = .op .rdActMixGain := by decide

theorem test_decode_rdActWaveform :
    decode 4 (.txn 0x0E800000000#43) = .op .rdActWaveform := by decide

theorem test_decode_wrVPinc :
    decode 4 (.txn 0x62080000000#43) = .op (.wrVPinc 1#4 0x80000000#32) := by decide

theorem test_decode_rdVPinc :
    decode 4 (.txn 0x20000000000#43) = .op (.rdVPinc 0#4) := by decide

theorem test_decode_wrVPhase :
    decode 4 (.txn 0x60480000000#43) = .op (.wrVPhase 0#4 0x80000000#32) := by decide

theorem test_decode_rdVPhase :
    decode 4 (.txn 0x20400000000#43) = .op (.rdVPhase 0#4) := by decide

theorem test_decode_gateOn :
    decode 4 (.txn 0x62800000001#43) = .op (.gateOn 1#4) := by decide

theorem test_decode_gateOff :
    decode 4 (.txn 0x62800000002#43) = .op (.gateOff 1#4) := by decide

theorem test_decode_rdVEnv :
    decode 4 (.txn 0x22C00000000#43) = .op (.rdVEnv 1#4) := by decide

theorem test_decode_rdVElapsed :
    decode 4 (.txn 0x21000000000#43) = .op (.rdVElapsed 0#4) := by decide

theorem test_decode_rdVStart :
    decode 4 (.txn 0x21400000000#43) = .op (.rdVStart 0#4) := by decide

theorem test_decode_rdVWave :
    decode 4 (.txn 0x21800000000#43) = .op (.rdVWave 0#4) := by decide

/-- R96. -/
theorem test_decode_tick :
    decode 4 (.strobe 1#1) = .op .tick ∧ decode 4 (.strobe 0#1) = .noEvent := by decide

/-- The opcode table's numbering (spec/opcode_table.json rows COMMIT, TICK, GATE_OFF). -/
theorem test_decodeTableWord :
    decodeTableWord 48 0x41400000001 = some .commit ∧ decodeTableWord 8 1 = some .tick ∧
    decodeTableWord 48 0x60800000002 = some (.gateOff 0#4) ∧ decodeTableWord 48 0x41400000000 = none := by decide

/-! ### Errors (R300, R304; 95_test_vectors.md V-ERR-1 to V-ERR-19, N = 4) -/

theorem test_error_misaligned :
    decode 4 (.txn 0x00200000000#43) = .error .misaligned ∧
    decode 4 (.txn 0x00300000000#43) = .error .misaligned ∧
    decode 4 (.txn 0x6A900000001#43) = .error .misaligned := by decide

theorem test_error_unmapped :
    decode 4 (.txn 0x03400000000#43) = .error .unmapped ∧
    decode 4 (.txn 0x07C00000000#43) = .error .unmapped ∧
    decode 4 (.txn 0x09000000000#43) = .error .unmapped ∧
    decode 4 (.txn 0x0EC00000000#43) = .error .unmapped ∧
    decode 4 (.txn 0x1FC00000000#43) = .error .unmapped ∧
    decode 4 (.txn 0x21C00000000#43) = .error .unmapped ∧
    decode 4 (.txn 0x43C00000000#43) = .error .unmapped := by decide

theorem test_error_noVoice :
    decode 4 (.txn 0x2A000000000#43) = .error .noVoice ∧
    decode 4 (.txn 0x3FC00000000#43) = .error .noVoice ∧
    decode 4 (.txn 0x6BC00000000#43) = .error .noVoice ∧
    decode 4 (.txn 0x6A800000001#43) = .error .noVoice := by decide

theorem test_error_roWrite :
    decode 4 (.txn 0x40000000005#43) = .error .roWrite ∧
    decode 4 (.txn 0x60C00000000#43) = .error .roWrite ∧
    decode 4 (.txn 0x40000000000#43) = .error .roWrite ∧
    decode 4 (.txn 0x4C000000001#43) = .error .roWrite := by decide

theorem test_error_woRead :
    decode 4 (.txn 0x01400000000#43) = .error .woRead ∧
    decode 4 (.txn 0x20800000000#43) = .error .woRead := by decide

theorem test_error_badCommand :
    decode 4 (.txn 0x41400000000#43) = .error .badCommand ∧
    decode 4 (.txn 0x41400000101#43) = .error .badCommand ∧
    decode 4 (.txn 0x60800000003#43) = .error .badCommand ∧
    decode 4 (.txn 0x41400000009#43) = .error .badCommand := by decide

/-- The ends of the reserved holes and of the register ranges (R77), the last voice window, and the ends of the command codes. -/
theorem test_error_boundaries :
    decode 4 (txn 0#1 0x034#10 0#32) = .error .unmapped ∧
    decode 4 (txn 0#1 0x03C#10 0#32) = .error .unmapped ∧
    decode 4 (txn 0#1 0x06C#10 0#32) = .error .unmapped ∧
    decode 4 (txn 0#1 0x07C#10 0#32) = .error .unmapped ∧
    decode 4 (txn 0#1 0x090#10 0#32) = .error .unmapped ∧
    decode 4 (txn 0#1 0x0BC#10 0#32) = .error .unmapped ∧
    decode 4 (txn 0#1 0x0EC#10 0#32) = .error .unmapped ∧
    decode 4 (txn 0#1 0x1FC#10 0#32) = .error .unmapped ∧
    decode 4 (txn 0#1 0x27C#10 0#32) = .error .unmapped ∧
    decode 4 (txn 0#1 0x030#10 0#32) = .op .rdLastOut ∧
    decode 4 (txn 0#1 0x040#10 0#32) = .op .rdB0 ∧
    decode 4 (txn 0#1 0x068#10 0#32) = .op .rdWaveform ∧
    decode 4 (txn 0#1 0x080#10 0#32) = .op .rdX1 ∧
    decode 4 (txn 0#1 0x08C#10 0#32) = .op .rdY2 ∧
    decode 4 (txn 0#1 0x0C0#10 0#32) = .op .rdActB0 ∧
    decode 4 (txn 0#1 0x0E8#10 0#32) = .op .rdActWaveform ∧
    decode 4 (txn 0#1 0x200#10 0#32) = .op (.rdVPinc 0#4) ∧
    decode 4 (txn 0#1 0x278#10 0#32) = .op (.rdVWave 3#4) ∧
    decode 4 (txn 0#1 0x280#10 0#32) = .error .noVoice ∧
    decode 16 (txn 0#1 0x3E0#10 0#32) = .op (.rdVPinc 15#4) ∧
    decode 4 (txn 1#1 0x014#10 3#32) = .op .softReset ∧
    decode 4 (txn 1#1 0x014#10 4#32) = .error .badCommand ∧
    decode 4 (txn 1#1 0x008#10 0#32) = .op (.wrCtrl 0#32) ∧
    decode 4 (txn 1#1 0x020#10 0#32) = .error .roWrite ∧
    decode 4 (txn 1#1 0x208#10 0#32) = .error .badCommand ∧
    decode 4 (txn 0#1 0x208#10 0#32) = .error .woRead := by decide

/-- V-ERR-18. -/
theorem test_errInfo_first_error_kept :
    field (run [.port (.txn 0x00200000000#43), .port (.txn 0x41400000009#43)] st4) (fun s => errInfoImage s.ERR_INFO) = some 0x00020001#32 := by decide

/-- V-ERR-19. -/
theorem test_errInfo_image :
    field (run [.port (.txn 0x6A800000001#43)] st4) (fun s => errInfoImage s.ERR_INFO) = some 0x82A80003#32 ∧
    answer (run [.port (.txn 0x6A800000001#43)] st4) = some { resp := .err, rdata := 0#32 } := by decide

/-! ### Global operations (40_bus_global.md examples, V-BUS) -/

/-- V-BUS-1, V-BUS-2 and the examples of R124 to R139. -/
theorem test_global_reads_after_reset :
    answer (run [.port (.txn 0x000DEADBEEF#43)] st4) = some { resp := .ok, rdata := 0x54464731#32 } ∧
    answer (run [.port (.txn 0x00400000000#43)] st4) = some { resp := .ok, rdata := 4#32 } ∧
    answer (run [.port (.txn 0x00800000000#43)] st4) = some { resp := .ok, rdata := 0#32 } ∧
    answer (run [.port (.txn 0x00C00000000#43)] st4) = some { resp := .ok, rdata := 0#32 } ∧
    answer (run [.port (.txn 0x01000000000#43)] st4) = some { resp := .ok, rdata := 0#32 } ∧
    answer (run [.port (.txn 0x01800000000#43)] st4) = some { resp := .ok, rdata := 0#32 } ∧
    answer (run [.port (.txn 0x01C00000000#43)] st4) = some { resp := .ok, rdata := 0#32 } ∧
    answer (run [.port (.txn 0x02000000000#43)] st4) = some { resp := .ok, rdata := 0#32 } ∧
    answer (run [.port (.txn 0x02800000000#43)] st4) = some { resp := .ok, rdata := 0#32 } := by decide

/-- V-BUS-3, V-BUS-7, V-BUS-5, V-BUS-6. -/
theorem test_control_writes :
    answer (run [.port (.txn 0x408FFFFFFFF#43), .port (.txn 0x00800000000#43)] st4) = some { resp := .ok, rdata := 1#32 } ∧
    answer (run [.port (.txn 0x410FFFFFFFF#43), .port (.txn 0x01000000000#43)] st4) = some { resp := .ok, rdata := 7#32 } ∧
    answer (run [.port (.txn 0x44400000005#43), .port (.txn 0x40C00000008#43), .port (.txn 0x00C00000000#43)] st4) = some { resp := .ok, rdata := 8#32 } ∧
    answer (run [.port (.txn 0x44400000005#43), .port (.txn 0x41400000001#43), .port (.txn 0x00C00000000#43)] st4) = some { resp := .ok, rdata := 0#32 } := by decide

/-- V-BUS-9. -/
theorem test_filter_history_reads :
    answer (run [.port (.txn 0x08000000000#43)] stHist) = some { resp := .ok, rdata := 0x00000005#32 } ∧
    answer (run [.port (.txn 0x08400000000#43)] stHist) = some { resp := .ok, rdata := 0xFFFFFFFA#32 } ∧
    answer (run [.port (.txn 0x08800000000#43)] stHist) = some { resp := .ok, rdata := 0x00000007#32 } ∧
    answer (run [.port (.txn 0x08C00000000#43)] stHist) = some { resp := .ok, rdata := 0xFFFFFFF8#32 } := by decide

/-- V-BUS-10. -/
theorem test_filter_clear :
    field (exec .filterClear stHist) (fun s => (s.x1, s.x2, s.y1, s.y2)) = some (0#16, 0#16, 0#16, 0#16) := by decide

/-- V-BUS-11. -/
theorem test_idle_events_w1c :
    field (exec (.wrIdleEvents 0xFFFFFFF2#32) { st4 with IDLE_EVENTS := 0b1011#16 }) (fun s => s.IDLE_EVENTS) = some 0b1001#16 := by decide

/-- R127's example. -/
theorem test_status_w1c :
    field (exec (.wrStatus 1#32) { st4 with ERR := true, CLIP_MIX := true }) statusImage = some 2#32 := by decide

/-- V-BUS-12. -/
theorem test_soft_reset :
    field (exec .softReset { stA with CLIP_MIX := true, IDLE_IE := true, PENDING := true, shadow := { st4.shadow with B1 := 0x123#32 } })
      (fun s => decide (s = { st4 with responses := [{ resp := .ok, rdata := 0#32 }] })) = some true := by decide

/-- V-BUS-14. -/
theorem test_activity_reads :
    answer (run [.port (.txn 0x02000000000#43)] stA02) = some { resp := .ok, rdata := 5#32 } ∧
    answer (run [.port (.txn 0x02400000000#43)] stA02) = some { resp := .ok, rdata := 2#32 } := by decide

/-! ### Parameter operations (V-PAR) -/

/-- The examples of R173 to R183 (MIX_GAIN = 0x2000 with N = 4). -/
theorem test_shadow_reads_after_reset :
    answer (run [.port (.txn 0x04000000000#43)] st4) = some { resp := .ok, rdata := 0x40000000#32 } ∧
    answer (run [.port (.txn 0x04400000000#43)] st4) = some { resp := .ok, rdata := 0#32 } ∧
    answer (run [.port (.txn 0x04800000000#43)] st4) = some { resp := .ok, rdata := 0#32 } ∧
    answer (run [.port (.txn 0x04C00000000#43)] st4) = some { resp := .ok, rdata := 0#32 } ∧
    answer (run [.port (.txn 0x05000000000#43)] st4) = some { resp := .ok, rdata := 0#32 } ∧
    answer (run [.port (.txn 0x05400000000#43)] st4) = some { resp := .ok, rdata := 0#32 } ∧
    answer (run [.port (.txn 0x05800000000#43)] st4) = some { resp := .ok, rdata := 0#32 } ∧
    answer (run [.port (.txn 0x05C00000000#43)] st4) = some { resp := .ok, rdata := 0#32 } ∧
    answer (run [.port (.txn 0x06000000000#43)] st4) = some { resp := .ok, rdata := 0x8000#32 } ∧
    answer (run [.port (.txn 0x06400000000#43)] st4) = some { resp := .ok, rdata := 0x2000#32 } ∧
    answer (run [.port (.txn 0x06800000000#43)] st4) = some { resp := .ok, rdata := 0#32 } := by decide

/-- The examples of R184 to R194, V-PAR-11 (N = 8). -/
theorem test_active_reads_after_reset :
    answer (run [.port (.txn 0x0C000000000#43)] st8) = some { resp := .ok, rdata := 0x40000000#32 } ∧
    answer (run [.port (.txn 0x0C400000000#43)] st8) = some { resp := .ok, rdata := 0#32 } ∧
    answer (run [.port (.txn 0x0C800000000#43)] st8) = some { resp := .ok, rdata := 0#32 } ∧
    answer (run [.port (.txn 0x0CC00000000#43)] st8) = some { resp := .ok, rdata := 0#32 } ∧
    answer (run [.port (.txn 0x0D000000000#43)] st8) = some { resp := .ok, rdata := 0#32 } ∧
    answer (run [.port (.txn 0x0D400000000#43)] st8) = some { resp := .ok, rdata := 0#32 } ∧
    answer (run [.port (.txn 0x0D800000000#43)] st8) = some { resp := .ok, rdata := 0#32 } ∧
    answer (run [.port (.txn 0x0DC00000000#43)] st8) = some { resp := .ok, rdata := 0#32 } ∧
    answer (run [.port (.txn 0x0E000000000#43)] st8) = some { resp := .ok, rdata := 0x8000#32 } ∧
    answer (run [.port (.txn 0x0E400000000#43)] st8) = some { resp := .ok, rdata := 0x1000#32 } ∧
    answer (run [.port (.txn 0x0E800000000#43)] st8) = some { resp := .ok, rdata := 0#32 } := by decide

/-- The examples of R162 to R172. -/
theorem test_shadow_writes :
    answer (run [.port (.txn 0x44020000000#43), .port (.txn 0x04000000000#43)] st4) = some { resp := .ok, rdata := 0x20000000#32 } ∧
    answer (run [.port (.txn 0x444FFFFFFFF#43), .port (.txn 0x04400000000#43)] st4) = some { resp := .ok, rdata := 0xFFFFFFFF#32 } ∧
    answer (run [.port (.txn 0x44840000000#43), .port (.txn 0x04800000000#43)] st4) = some { resp := .ok, rdata := 0x40000000#32 } ∧
    answer (run [.port (.txn 0x44CE0000000#43), .port (.txn 0x04C00000000#43)] st4) = some { resp := .ok, rdata := 0xE0000000#32 } ∧
    answer (run [.port (.txn 0x45080000000#43), .port (.txn 0x05000000000#43)] st4) = some { resp := .ok, rdata := 0x80000000#32 } ∧
    answer (run [.port (.txn 0x454FF123456#43), .port (.txn 0x05400000000#43)] st4) = some { resp := .ok, rdata := 0x123456#32 } ∧
    answer (run [.port (.txn 0x45800000004#43), .port (.txn 0x05800000000#43)] st4) = some { resp := .ok, rdata := 4#32 } ∧
    answer (run [.port (.txn 0x45C01000000#43), .port (.txn 0x05C00000000#43)] st4) = some { resp := .ok, rdata := 0#32 } ∧
    answer (run [.port (.txn 0x4601234FFFF#43), .port (.txn 0x06000000000#43)] st4) = some { resp := .ok, rdata := 0x8000#32 } ∧
    answer (run [.port (.txn 0x46400014000#43), .port (.txn 0x06400000000#43)] st4) = some { resp := .ok, rdata := 0x4000#32 } ∧
    answer (run [.port (.txn 0x468FFFFFFFE#43), .port (.txn 0x06800000000#43)] st4) = some { resp := .ok, rdata := 2#32 } := by decide

/-- V-PAR-5, V-PAR-6 and the bound itself. -/
theorem test_sustain_clamp :
    answer (run [.port (.txn 0x46000007FFF#43), .port (.txn 0x06000000000#43)] st4) = some { resp := .ok, rdata := 0x7FFF#32 } ∧
    answer (run [.port (.txn 0x460FFFF8001#43), .port (.txn 0x06000000000#43)] st4) = some { resp := .ok, rdata := 0x8000#32 } ∧
    answer (run [.port (.txn 0x46000008000#43), .port (.txn 0x06000000000#43)] st4) = some { resp := .ok, rdata := 0x8000#32 } := by decide

/-- V-PAR-1, V-PAR-2. -/
theorem test_commit :
    answer (run [.port (.txn 0x44080000000#43), .port (.txn 0x0C000000000#43)] st4) = some { resp := .ok, rdata := 0x40000000#32 } ∧
    answer (run [.port (.txn 0x44080000000#43), .port (.txn 0x41400000001#43), .port (.txn 0x0C000000000#43)] st4) = some { resp := .ok, rdata := 0x80000000#32 } := by decide

/-! ### Voice operations (V-VOI) -/

/-- V-VOI-1, V-VOI-2. -/
theorem test_voice_writes :
    answer (run [.port (.txn 0x6000258BF26#43), .port (.txn 0x20000000000#43)] st4) = some { resp := .ok, rdata := 0x0258BF26#32 } ∧
    answer (run [.port (.txn 0x60480000000#43), .port (.txn 0x20400000000#43)] st4) = some { resp := .ok, rdata := 0x80000000#32 } := by decide

/-- R206: a voice in Release with L = 10240. -/
theorem test_gate_on :
    field (exec (.gateOn 0#4) { st4 with voice := [vRel], active := { st4.active with WAVEFORM := 2#2 } }) (fun s => s.voice) =
      some [{ vRel with ph := .Attack, S := 10240#16, k := 0#24, wave := 2#2 }] := by decide

/-- R207's example; V-VOI-11. -/
theorem test_gate_off :
    field (exec (.gateOff 0#4) { st4 with voice := [{ vRel with ph := .Sustain, L := 0x4000#16 }] }) (fun s => s.voice) =
      some [{ vRel with ph := .Release, L := 0x4000#16, S := 0x4000#16, k := 0#24 }] ∧
    field (exec (.gateOff 0#4) { st4 with voice := [vRel] }) (fun s => s.voice) = some [vRel] := by decide

/-- The examples of R208 to R211 (the voice after program P4; wave 1). -/
theorem test_voice_reads :
    answer (run [.port (.txn 0x20C00000000#43)] { st4 with voice := [vDec] }) = some { resp := .ok, rdata := 0x68000002#32 } ∧
    answer (run [.port (.txn 0x21000000000#43)] { st4 with voice := [vDec] }) = some { resp := .ok, rdata := 1#32 } ∧
    answer (run [.port (.txn 0x21400000000#43)] { st4 with voice := [vDec] }) = some { resp := .ok, rdata := 0x8000#32 } ∧
    answer (run [.port (.txn 0x21800000000#43)] { st4 with voice := [vDec] }) = some { resp := .ok, rdata := 1#32 } := by decide

/-! ### TICK and its stages -/

/-- V-BUS-16, V-TCK-1. -/
theorem test_tick_counts :
    field (exec .tick { st4 with SAMPLE_COUNT := 0xFFFFFFFF#32 }) (fun s => (s.SAMPLE_COUNT, s.samples)) = some (0#32, [0#16]) := by decide

/-- V-BUS-15. -/
theorem test_tick_saw :
    field (exec .tick { st4 with voice := [{ vIdle with ph := .Attack, wave := 3#2 }] }) (fun s => (s.MIX_OUT.toInt, s.LAST_OUT.toInt)) =
      some (-8192, -8192) := by decide

/-- R263, V-OSC-1 to V-OSC-8. -/
theorem test_sine :
    osc .standard 0#2 0#32 = 0 ∧ osc .standard 0#2 0x003FFFFF#32 = 0 ∧ osc .standard 0#2 0x00400000#32 = 201 ∧ osc .standard 0#2 0x20000000#32 = 23170 ∧ osc .standard 0#2 0x40000000#32 = 32767 ∧ osc .standard 0#2 0xC0000000#32 = -32767 ∧ osc .standard 0#2 0xFFFFFFFF#32 = -201 := by decide

/-- R264. -/
theorem test_square :
    osc .standard 1#2 0#32 = 32767 ∧ osc .standard 1#2 0x7FFFFFFF#32 = 32767 ∧ osc .standard 1#2 0x80000000#32 = -32767 ∧ osc .standard 1#2 0xFFFFFFFF#32 = -32767 := by decide

/-- R265. -/
theorem test_triangle :
    osc .standard 2#2 0#32 = -32767 ∧ osc .standard 2#2 0x00010000#32 = -32765 ∧ osc .standard 2#2 0x20000000#32 = -16383 ∧ osc .standard 2#2 0x3FFFFFFF#32 = -1 ∧ osc .standard 2#2 0x40000000#32 = 1 ∧ osc .standard 2#2 0x7FFF0000#32 = 32767 ∧ osc .standard 2#2 0x80000000#32 = 32767 ∧ osc .standard 2#2 0xC0000000#32 = -1 ∧ osc .standard 2#2 0xFFFF0000#32 = -32767 := by decide

/-- R266. -/
theorem test_sawtooth :
    osc .standard 3#2 0#32 = -32768 ∧ osc .standard 3#2 0x00400000#32 = -32704 ∧ osc .standard 3#2 0x20000000#32 = -24576 ∧ osc .standard 3#2 0x7FFFFFFF#32 = -1 ∧ osc .standard 3#2 0x80000000#32 = 0 ∧ osc .standard 3#2 0xFFFFFFFF#32 = 32767 := by decide

/-- R261, V-OSC-15. -/
theorem test_phase_advance :
    field (exec .tick { st4 with voice := [{ vIdle with ph := .Sustain, phase := 0xC0000000#32, pinc := 0x40000000#32 }] })
      (fun s => s.voice.map (fun x => x.phase)) = some [0#32] := by decide

/-- 47_mixer_output.md examples M1 to M6. -/
theorem test_mixer_clamp :
    (mixM { st4.active with MIX_GAIN := 0x8000#16 } 65534).toInt = 32767 ∧ mixClips { st4.active with MIX_GAIN := 0x8000#16 } 65534 = true ∧
    (mixM { st4.active with MIX_GAIN := 0x4000#16 } 65534).toInt = 32767 ∧ mixClips { st4.active with MIX_GAIN := 0x4000#16 } 65534 = false ∧
    (mixM { st4.active with MIX_GAIN := 0x8000#16 } (-65536)).toInt = -32768 ∧ mixClips { st4.active with MIX_GAIN := 0x8000#16 } (-65536) = true ∧
    (mixM { st4.active with MIX_GAIN := 0x2000#16 } (-131072)).toInt = -32768 ∧ mixClips { st4.active with MIX_GAIN := 0x2000#16 } (-131072) = false ∧
    (mixM { st4.active with MIX_GAIN := 0x1000#16 } 32767).toInt = 4095 ∧ mixGain { st4.active with MIX_GAIN := 0xFFFF#16 } 32767 = 65533 := by decide

/-- 46_filter.md section 3. -/
theorem test_filter_rounding :
    filterOut 0x20000000#32 1 = 1 ∧ filterOut 0x20000000#32 (-1) = 0 ∧ filterOut 0x20000000#32 3 = 2 ∧ filterOut 0x20000000#32 (-3) = -1 ∧
    filterOut 0x7FFFFFFF#32 32767 = 32767 ∧ filterOut 0x80000000#32 (-32768) = 32767 ∧ filterOut 0x80000000#32 32767 = -32768 ∧
    filterOut 0x00100000#32 512 = 1 ∧ filterOut 0x00100000#32 (-512) = 0 := by decide

/-- V-TCK-3, V-FLT-10. -/
theorem test_filter_free_response :
    field (exec .tick { st4 with y1 := 1000#16, FILTER_EN := true, active := { st4.active with B0 := 0#32, A1 := 0xE0000000#32 } })
      (fun s => (s.LAST_OUT, s.MIX_OUT, s.y1, s.y2)) = some (500#16, 0#16, 500#16, 1000#16) := by decide

/-- Programs P1 (TICKs 1 and 26) and P4. -/
theorem test_ramp :
    (envStep { st4.active with ATTACK := 20#24 } { vIdle with ph := .Attack }).L = 1638#16 ∧
    (envStep { st4.active with RELEASE := 20#24 } { vIdle with ph := .Release, L := 0x4000#16, S := 0x4000#16 }).L = 15565#16 ∧
    (envStep { st4.active with ATTACK := 4#24 } { vIdle with ph := .Attack, L := 10240#16, S := 10240#16 }).L = 15872#16 := by decide

/-- V-ENV-2, V-ENV-3. -/
theorem test_attack_chains :
    envStep { st4.active with ATTACK := 0#24, DECAY := 0#24, SUSTAIN := 0x6000#16 } { vIdle with ph := .Attack } =
      { vIdle with ph := .Sustain, L := 0x6000#16, S := 0x6000#16, k := 0#24 } ∧
    envStep { st4.active with DECAY := 4#24, SUSTAIN := 0x2000#16 } { vIdle with ph := .Attack } =
      { vIdle with ph := .Decay, L := 0x8000#16, S := 0x8000#16, k := 0#24 } := by decide

/-- V-ENV-7. -/
theorem test_shortened_attack :
    (envStep { st4.active with ATTACK := 3#24, DECAY := 0#24 } { vIdle with ph := .Attack, k := 5#24, L := 16384#16 }).L = 0x8000#16 := by decide

/-- V-ENV-10. -/
theorem test_sustain_count :
    (envStep st4.active { vIdle with ph := .Sustain, k := 0xFFFFFE#24 }).k = 0xFFFFFF#24 ∧
    (envStep st4.active { vIdle with ph := .Sustain, k := 0xFFFFFF#24 }).k = 0xFFFFFF#24 := by decide

/-- V-ENV-6, R232, R247. -/
theorem test_release_completes :
    field (exec .tick { st4 with voice := [{ vIdle with ph := .Release, L := 0x4000#16, S := 0x4000#16, pinc := 4#32 }] })
      (fun s => (s.voice, s.IDLE_EVENTS)) = some ([{ vIdle with phase := 4#32, pinc := 4#32 }], 1#16) := by decide

/-! ### irq, rst and the schedule -/

/-- V-IRQ-1 to V-IRQ-4. -/
theorem test_irq :
    irqLine { st4 with ERR_IE := true, ERR := true } = true ∧ irqLine { st4 with ERR := true } = false ∧
    irqLine { st4 with IDLE_IE := true, IDLE_EVENTS := 1#16 } = true ∧ irqLine { st4 with CLIP_IE := true, CLIP_FILT := true } = true := by decide

/-- R330, R331, I1. -/
theorem test_rst_loses_transactions :
    field (run [.rst true, .port (.txn 0x408FFFFFFFF#43), .port (.strobe 1#1), .rst false] { st4 with PENDING := true })
      (fun s => decide (s = st4)) = some true := by decide

/-- R125, R231, R320. -/
theorem test_withFetchWord :
    field (step (State.reset.withFetchWord 48 0x40800000001)) (fun s => s.FILTER_EN) = some true ∧
    field (step (State.reset.withFetchWord 8 1)) (fun s => s.SAMPLE_COUNT) = some 1#32 ∧
    field (step State.reset) (fun s => decide (s = State.reset)) = some true := by decide

/-! ### Host conversions and program forms -/

/-- V-ENV-13, V-OSC-16. -/
theorem test_host_conversions :
    durationTicks 10 1 48000 = 480 ∧ durationTicks 1 100 48000 = 0 ∧ durationTicks 105 10000 48000 = 1 ∧
    durationTicks 400000 1 48000 = 16777215 ∧ sustainLevel 1 2 = 0x4000 ∧ sustainLevel 1 3 = 10923 ∧
    phaseIncrement 440 1 48000 = 0x0258BF26 := by decide

/-- R102, R103, R334. -/
theorem test_program_form :
    programEvents (expandPseudo (.noteOn 0#4 0x40000000)) = [.port (.txn 0x60040000000#43), .port (.txn 0x60800000001#43)] ∧
    programEvents [.wr (.shadow .A1) (-1), .tick 2] = [.port (.txn 0x44CFFFFFFFF#43), .port (.strobe 1#1), .port (.strobe 1#1)] ∧
    (bootSequence [(.MIX_GAIN, 0x4000)] 1 7).length = 6 := by decide

/-- R102, R103. -/
theorem test_program_text :
    programOfText "WR ATTACK, 20 ; 20 ticks\n\nTICK\nTICK 25\nRD V0.ENV\nWR B1, -1" =
      some [.wr (.shadow .ATTACK) 20, .tick 1, .tick 25, .rd (.voice 0#4 .V_ENV), .wr (.shadow .B1) (-1)] ∧
    programOfText "PUBLISH B0=0x20000000, A1=-5\nNOTE_ON 1, 7\nRD ACT_MIX_GAIN" =
      some (expandPseudo (.publish [(.B0, 0x20000000), (.A1, -5)]) ++ expandPseudo (.noteOn 1#4 7) ++ [.rd (.act .MIX_GAIN)]) ∧
    programOfText "WR B1 5" = none ∧ programOfText "RD V16.PINC" = none := by decide

/-- R345, I2, and R331 while rst is 1: the two sides of OnlyTickOverrunStops. -/
theorem test_tick_overrun :
    step { st4 with inputs := [.tickOverrun, .rst true] } = .fault .tickOverrun ∧
    step { st4 with rst := true, inputs := [.tickOverrun] } = .next { st4 with rst := true } := ⟨rfl, rfl⟩

/-! ### Witnesses: concrete states and operands that meet each statement's hypotheses -/

theorem witness_StepRunsDecodedOperation :
    ∃ (s : State) (p : PortWord) (rest : List Event) (i : Instr), s.rst = false ∧ s.inputs = .port p :: rest ∧ decode s.n p = .op i ∧ decode s.n (portWordOfTable 48 0x41400000001) = .op .commit := ⟨presentFirst (.txn 0x62800000001#43) st4, .txn 0x62800000001#43, [], .gateOn 1#4, by decide⟩

theorem witness_DecodeInvertsEncode :
    Instr.wf 16 (.wrVPhase 15#4 0xFFFFFFFF#32) = true ∧ Instr.wf 1 (.gateOn 0#4) = true ∧ Instr.wf 0 .tick = true := by decide

theorem witness_EncodeInvertsDecode :
    decode 4 (.txn 0x26C00000005#43) = .op (.rdVEnv 3#4) ∧ decode 4 (.txn 0x408FFFFFFFF#43) = .op (.wrCtrl 0xFFFFFFFF#32) ∧
    decode 4 (.strobe 1#1) = .op .tick := by decide

theorem witness_EncodedOperationRunsNext :
    Instr.wf st4.n (.gateOff 3#4) = true := by decide

theorem witness_RegisterMapIsOneToOne :
    (0x27C#10).toNat % 4 = 0 ∧ regOf 0x278#10 = some (.voice 3#4 .V_WAVE) ∧ (Reg.voice 3#4 .V_WAVE).addr = 0x278#10 := by decide

theorem witness_StepKeepsInvariants :
    Inv stTickNext ∧ ∃ t, step stTickNext = .next t := ⟨by decide, _, rfl⟩

theorem witness_ResetMeetsInvariants :
    Config.wf Config.standard = true ∧ Config.wf { n := 1, sineLut := .custom (List.replicate 1024 0x7FFF#16) } = true := by decide +kernel

theorem witness_OneResponsePerTransaction :
    ∃ w rest, (presentFirst (.txn 0x41400000003#43) st4).rst = false ∧ (presentFirst (.txn 0x41400000003#43) st4).inputs = .port (.txn w) :: rest := ⟨_, _, rfl, rfl⟩

theorem witness_OneResponsePerTransaction_cases :
    decode 4 (.txn 0x41400000003#43) = .op .softReset ∧ decode 4 (.txn 0x40800000001#43) = .op (.wrCtrl 1#32) ∧
    decode 4 (.txn 0x00200000000#43) = .error .misaligned := by decide

theorem witness_ErrorResponseChangesOnlyTheRecord :
    ∃ (s : State) (w : TxnWord) (rest : List Event) (c : BusError), s.rst = false ∧ s.inputs = .port (.txn w) :: rest ∧ decode s.n (.txn w) = .error c ∧ s.ERR = false := ⟨presentFirst (.txn 0x41400000004#43) st4, 0x41400000004#43, [], .badCommand, by decide⟩

theorem witness_ErrorResponseChangesOnlyTheRecord_errSet :
    ∃ (s : State) (w : TxnWord) (rest : List Event) (c : BusError), s.rst = false ∧ s.inputs = .port (.txn w) :: rest ∧ decode s.n (.txn w) = .error c ∧ s.ERR = true := ⟨presentFirst (.txn 0x2A000000000#43) { st4 with ERR := true }, 0x2A000000000#43, [], .noVoice, by decide⟩

theorem witness_ErrorResponseChangesOnlyTheRecord_writers :
    (∃ t, step (presentFirst (.txn 0x2A000000000#43) st4) = .next t ∧ t.ERR_INFO ≠ (presentFirst (.txn 0x2A000000000#43) st4).ERR_INFO) ∧
    (∃ t, step (presentFirst (.txn 0x41400000003#43) { st4 with ERR_INFO := { CODE := 3#4, ADDR := 0x2A0#10, W := 0#1 } }) = .next t ∧ t.ERR_INFO ≠ { CODE := 3#4, ADDR := 0x2A0#10, W := 0#1 }) ∧
    ∃ t, step { st4 with ERR_INFO := { CODE := 3#4, ADDR := 0x2A0#10, W := 0#1 }, inputs := [.rst true] } = .next t ∧ t.ERR_INFO ≠ { CODE := 3#4, ADDR := 0x2A0#10, W := 0#1 } := ⟨⟨_, rfl, by decide⟩, ⟨_, rfl, by decide⟩, _, rfl, by decide⟩

theorem witness_VoiceOperationWithoutVoiceIsNoVoice :
    Instr.voiceIndex (.gateOn 4#4) = some 4#4 ∧ st4.n ≤ (4#4).toNat ∧ encode (.gateOn 4#4) = .txn 0x68800000001#43 := by decide

theorem witness_OnlyTheseClearFlags :
    ∃ t, step (presentFirst (.txn 0x40C00000001#43) { st4 with ERR := true }) = .next t := ⟨_, rfl⟩

theorem witness_OnlyTheseClearFlags_flags :
    field (step (presentFirst (.txn 0x40C00000007#43) stFlags)) (fun s => (s.ERR, s.CLIP_MIX, s.CLIP_FILT)) = some (false, false, false) ∧
    field (step (presentFirst (.txn 0x41C00000008#43) stFlags)) (fun s => s.IDLE_EVENTS) = some 0#16 ∧ stFlags.IDLE_EVENTS = 8#16 := by decide

theorem witness_OnlyTheseSetFlags :
    Instr.wf st4.n .tick = true ∧ isShadowWrite (.wrWaveform 0#32) = true ∧ isShadowWrite (.wrB0 0#32) = true ∧
    isShadowWrite .commit = false ∧ ∃ t, exec .commit st4 = .next t := ⟨by decide, by decide, by decide, by decide, _, rfl⟩

theorem witness_ActiveSetChangesAsAWhole :
    ∃ t, step (presentFirst (.txn 0x41400000001#43) { st4 with shadow := { st4.shadow with B0 := 1#32 } }) = .next t := ⟨_, rfl⟩

theorem witness_FilterHistoryWriters :
    ∃ t, step (presentFirst (.txn 0x41400000002#43) stHist) = .next t := ⟨_, rfl⟩

theorem witness_OnlyTickEmitsSamples :
    stTickNext.rst = false ∧ stTickNext.inputs = [.port (.strobe 1#1)] ∧
    field (step stTickNext) (fun t => decide (t.samples ≠ stTickNext.samples)) = some true := by decide

theorem witness_ParametersNeverChange :
    ∃ t, step { st4 with inputs := [.rst true] } = .next t := ⟨_, rfl⟩

theorem witness_EnvelopePhaseTransitions :
    ∃ t y, exec .tick stR = .next t ∧ stR.voice[0]? = some vRel ∧ t.voice[0]? = some y ∧ vRel.ph = .Release := ⟨_, _, rfl, rfl, rfl, rfl⟩

theorem witness_IdleEventsFromReleaseOnly :
    stR.n ≤ 16 := by decide

theorem witness_InterruptLineIsTheEnabledConditions :
    ∃ t u v, stFlags.rst = false ∧ stFlags.n ≤ 16 ∧ stFlags.IDLE_EVENTS.toNat < 2 ^ stFlags.n ∧ exec (.wrIrqEn 7#32) stFlags = .next t ∧
    exec (.wrIrqEn 0#32) stFlags = .next u ∧ exec (.wrStatus 7#32) stFlags = .next v ∧ ∃ x, exec (.wrIdleEvents 0xFFFFFFFF#32) v = .next x := ⟨_, _, _, rfl, by decide, by decide, rfl, rfl, rfl, _, rfl⟩

theorem witness_InterruptLineIsTheEnabledConditions_rst :
    ({ stFlags with rst := true } : State).rst = true ∧ irqLine { stFlags with rst := true } = false ∧ irqLine stFlags = true := by decide

theorem witness_ResetStateIsAsListed :
    1 ≤ Config.standard.n ∧ ({ st4 with rst := true, inputs := [.port (.strobe 1#1)] } : State).rst = true ∧
    ({ st4 with rst := true, inputs := [.rst false] } : State).inputs = [.rst false] := by decide

theorem witness_RaisingRstResets :
    ({ st4 with inputs := [.rst true] } : State).inputs = .rst true :: [] ∧
    ({ st4 with inputs := [.rst false] } : State).rst = false ∧ ({ st4 with inputs := [.rst false] } : State).inputs = .rst false :: [] ∧
    ({ st4 with rst := true, inputs := [.rst false] } : State).rst = true := by decide

theorem witness_VoiceReadsAnswerTheirRegister :
    stR.voice[(0#4).toNat]? = some vRel := by decide

theorem witness_RegisterReadsRefineTheRegisterMap :
    ∃ rest, st4.n ≤ 16 ∧ (presentFirst (txn 0#1 (Reg.voice 3#4 .V_WAVE).addr 5#32) st4).rst = false ∧
    (presentFirst (txn 0#1 (Reg.voice 3#4 .V_WAVE).addr 5#32) st4).inputs = .port (txn 0#1 (Reg.voice 3#4 .V_WAVE).addr 5#32) :: rest := ⟨[], by decide, rfl, rfl⟩

theorem witness_RegisterReadsRefineTheRegisterMap_cases :
    regValue (presentFirst (txn 0#1 0x278#10 0#32) st4) (.voice 3#4 .V_WAVE) = some 0 ∧
    regValue st4 (.voice 4#4 .V_WAVE) = none ∧ regValue st4 .COMMAND = none ∧ regValue st4 .CONFIG = some 4 := by decide

theorem witness_ShadowWritesStoreLegalisedData :
    isShadowWrite (.wrSustain 0x8001#32) = true ∧ ∃ t, exec (.wrSustain 0x8001#32) st4 = .next t := ⟨by decide, _, rfl⟩

theorem witness_ShadowWriteReadsBack :
    ∃ t, st4.rst = false ∧ step (presentFirst (txn 1#1 (Reg.shadow .SUSTAIN).addr 0xFFFF8001#32) st4) = .next t := ⟨_, rfl, rfl⟩

theorem witness_CommitPublishesTheShadowSet :
    Inv st4 ∧ st4.PENDING = false := by decide

theorem witness_IdleEventsWriteClearsNamedBits :
    stFlags.n ≤ 16 ∧ stFlags.IDLE_EVENTS.getLsbD 3 = true ∧ (3 : Nat) < stFlags.n := by decide

theorem witness_VoiceWritesStoreTheirField :
    stR.voice[(0#4).toNat]? = some vRel ∧ st4.voice[(3#4).toNat]? = some vIdle := by decide

theorem witness_GateOnStartsAttackFromCurrentLevel :
    st4.voice[(3#4).toNat]? = some vIdle := by decide

theorem witness_GateOffStartsReleaseOrIsIgnored :
    stA.voice[(0#4).toNat]? = some { vIdle with ph := .Attack } ∧ stR.voice[(0#4).toNat]? = some vRel ∧ vRel.ph = .Release := by decide

theorem witness_TickAdvancesActiveVoicesOnly :
    ∃ t, exec .tick stR = .next t ∧ stR.voice[0]? = some vRel ∧ vRel.ph ≠ .Idle ∧ st4.voice[0]? = some vIdle ∧ vIdle.ph = .Idle := ⟨_, rfl, rfl, by decide, rfl, rfl⟩

theorem witness_TickMixesActiveVoices_clauses :
    (mixOutOf (stSquares 2 0x8000#16), mixOutOf (stSquares 2 0x4000#16), mixOutOf (stSaws 2 0x8000#16), mixOutOf (stSaws 4 0x2000#16)) =
      (some (32767, true), some (32767, false), some (-32768, true), some (-32768, false)) := by decide

theorem witness_TickFiltersTheMix_clauses :
    filtOutOf 0x7FFFFFFF#32 32767#16 = some (32767, true) ∧ filtOutOf 0x7FFFFFFF#32 0x8000#16 = some (-32768, true) ∧
    filtOutOf 0x40000000#32 32767#16 = some (32767, false) ∧ filtOutOf 0x40000000#32 0x8000#16 = some (-32768, false) := by decide

theorem witness_MixerSumFitsTwentyOneBits :
    Bounds (stSaws 4 0x2000#16) := by decide

theorem witness_OscillatorStaysInRange :
    SineTable.wf .standard = true ∧ (2#2 : BitVec 2) ≠ 3#2 ∧ ({ vIdle with ph := .Attack } : Voice).ph ≠ .Idle := by decide

theorem witness_SineTableSymmetries :
    (1023 : Nat) < 1024 ∧ (511 : Nat) < 512 ∧ SineTable.wf (.custom (List.replicate 1024 0x8001#16)) = true := by decide +kernel

theorem witness_VoiceSampleScalesTheOscillator :
    (-32768 : Int) ≤ -32768 ∧ (-32768 : Int) ≤ 32767 ∧ (0x8000#16).toNat ≤ 0x8000 := by decide

theorem witness_RampLevelLiesOnTheLine :
    ({ vIdle with ph := .Attack } : Voice).ph = .Attack ∧ (0#24).toNat + 1 < (2#24).toNat ∧ (0#16).toNat ≤ 0x8000 ∧ vRel.ph = .Release ∧
    vRel.S.toNat ≤ 0x8000 ∧ vRel.k.toNat + 1 < (8#24).toNat ∧ vDec.ph = .Decay ∧ vDec.S.toNat ≤ 0x8000 ∧ vDec.k.toNat + 1 < (4#24).toNat := by decide

theorem witness_SegmentCompletesAtItsTarget :
    vRel.ph = .Release ∧ (4#24).toNat ≤ vRel.k.toNat + 1 ∧ vDec.ph = .Decay ∧ (2#24).toNat ≤ vDec.k.toNat + 1 ∧
    (0#24).toNat ≤ ({ vIdle with ph := .Attack } : Voice).k.toNat + 1 ∧ (1#24 : Ticks) ≠ 0#24 := by decide

theorem witness_AttackNeverFallsReleaseNeverRises :
    VoiceInv vRel ∧ vRel.k.toNat < (8#24).toNat ∧ vRel.L = rampLevel vRel.S 0#16 vRel.k.toNat (8#24).toNat ∧
    VoiceInv { vIdle with ph := .Attack, k := 1#24, L := 8192#16 } ∧ (8192#16 : Level) = rampLevel 0#16 0x8000#16 1 4 ∧
    (envStep { st4.active with ATTACK := 4#24 } { vIdle with ph := .Attack, k := 1#24, L := 8192#16 }).ph = .Attack := by decide

theorem witness_ReleaseReachesIdleAfterItsDuration :
    Bounds stA ∧ stA.voice[(0#4).toNat]? = some { vIdle with ph := .Attack } ∧ ∃ t, exec (.gateOff 0#4) stA = .next t := ⟨by decide, rfl, _, rfl⟩

theorem witness_ReleaseReachesIdleAfterItsDuration_clauses :
    ∃ t, exec (.gateOff 0#4) { stA with active := { st4.active with RELEASE := 2#24 } } = .next t ∧
    field (ticks 1 t) (fun u => (u.voice[0]?).map (fun y => (y.ph, y.k))) = some (some (.Release, 1#24)) ∧
    field (ticks 2 t) (fun u => ((u.voice[0]?).map (fun y => y.ph), u.IDLE_EVENTS)) = some (some .Idle, 1#16) ∧
    field (ticks 3 t) (fun u => ((u.voice[0]?).map (fun y => y.ph), u.IDLE_EVENTS)) = some (some .Idle, 1#16) := ⟨_, rfl, by decide⟩

theorem witness_AttackReachesFullLevelAfterItsDuration :
    Bounds stDecay ∧ stDecay.voice[(3#4).toNat]? = some vIdle ∧ stDecay.active.DECAY ≠ 0#24 ∧ st4.active.DECAY = 0#24 ∧
    Bounds st4 ∧ st4.voice[(3#4).toNat]? = some vIdle ∧ (∃ t, exec (.gateOn 3#4) st4 = .next t) ∧ ∃ t, exec (.gateOn 3#4) stDecay = .next t := ⟨by decide, rfl, by decide, rfl, by decide, rfl, ⟨_, rfl⟩, _, rfl⟩

theorem witness_AttackReachesFullLevelAfterItsDuration_clauses :
    ∃ t u, exec (.gateOn 3#4) stDecay = .next t ∧ exec (.gateOn 3#4) st4 = .next u ∧
    field (ticks 1 t) (fun a => (a.voice[3]?).map (fun y => (y.ph, y.k, y.L))) = some (some (.Attack, 1#24, 0x4000#16)) ∧
    field (ticks 2 t) (fun a => (a.voice[3]?).map (fun y => (y.ph, y.k, y.L))) = some (some (.Decay, 0#24, 0x8000#16)) ∧
    field (ticks 1 u) (fun a => (a.voice[3]?).map (fun y => (y.ph, y.k, y.L))) = some (some (.Sustain, 0#24, 0x8000#16)) ∧
    field (ticks 2 u) (fun a => (a.voice[3]?).map (fun y => (y.ph, y.k, y.L))) = some (some (.Sustain, 1#24, 0x8000#16)) := ⟨_, _, rfl, rfl, by decide⟩

theorem witness_SilentUntilGatedOn :
    (∀ x ∈ st4.voice, x.ph = .Idle) ∧ st4.x1 = 0#16 ∧ st4.x2 = 0#16 ∧ st4.y1 = 0#16 ∧ st4.y2 = 0#16 := by decide

theorem witness_ShadowWritesInvisibleUntilCommit :
    ∀ i ∈ [Instr.tick, .wrB0 0#32, .tick, .wrWaveform 1#32], i = .tick ∨ isShadowWrite i = true := by decide

theorem witness_ActiveCountIsAtMostN :
    stA02.n ≤ 16 := by decide

theorem witness_PseudoInstructionsExpandToOperations :
    (15#4).toNat < 16 := by decide

end Sys2Proof.Tests
end

section
/-! SUPPORT. What one operation and one step can do to the state, said once: `Effect` and `StepEffect`, with the inversions
`effect_of_exec` and `stepEffect_of_step`. The statements about the state (10_state.md) are case splits over them. -/

namespace Sys2Proof.Machine

/-! ### Shadow writes as one operation (R161) -/

/-- The write operation of a shadow register. -/
def shadowWrite (data : Word) : Param → Instr
  | .B0 => .wrB0 data
  | .B1 => .wrB1 data
  | .B2 => .wrB2 data
  | .A1 => .wrA1 data
  | .A2 => .wrA2 data
  | .ATTACK => .wrAttack data
  | .DECAY => .wrDecay data
  | .RELEASE => .wrRelease data
  | .SUSTAIN => .wrSustain data
  | .MIX_GAIN => .wrMixGain data
  | .WAVEFORM => .wrWaveform data

/-- A parameter set with the legalised DATA stored in one field (R29, R161). -/
def storeParam (data : Word) (P : ParamSet) : Param → ParamSet
  | .B0 => { P with B0 := data }
  | .B1 => { P with B1 := data }
  | .B2 => { P with B2 := data }
  | .A1 => { P with A1 := data }
  | .A2 => { P with A2 := data }
  | .ATTACK => { P with ATTACK := storedTicks data }
  | .DECAY => { P with DECAY := storedTicks data }
  | .RELEASE => { P with RELEASE := storedTicks data }
  | .SUSTAIN => { P with SUSTAIN := storedSustain data }
  | .MIX_GAIN => { P with MIX_GAIN := storedGain data }
  | .WAVEFORM => { P with WAVEFORM := storedWaveform data }

theorem exec_shadowWrite (p : Param) (data : Word) (s : State) :
    exec (shadowWrite data p) s = writeDone (setShadow (storeParam data s.shadow p) s) := by
  cases p <;> rfl

theorem writeOp_shadow (p : Param) (data : Word) : writeOp (.shadow p) data = some (shadowWrite data p) := by
  cases p <;> rfl

theorem encode_shadowWrite (p : Param) (data : Word) :
    encode (shadowWrite data p) = txn 1#1 (Reg.shadow p).addr data := by
  cases p <;> rfl

theorem isShadowWrite_shadowWrite (p : Param) (data : Word) : isShadowWrite (shadowWrite data p) = true := by
  have haddr : 0x040 ≤ (Reg.shadow p).addr.toNat ∧ (Reg.shadow p).addr.toNat ≤ 0x068 := by cases p <;> decide
  simp [isShadowWrite, encode_shadowWrite, txn, haddr]

/-! ### What an operation does -/

/-- How an operation can write the voice `x` of index `v`, with `wave` the active WAVEFORM (R201, R203, R206, R207). -/
inductive VoiceChange (wave : BitVec 2) (v : BitVec 4) (x : Voice) : Instr → Voice → Prop
  | pinc (data : Word) : VoiceChange wave v x (.wrVPinc v data) { x with pinc := data }
  | phase (data : Word) : VoiceChange wave v x (.wrVPhase v data) { x with phase := data }
  | gateOn : VoiceChange wave v x (.gateOn v) (gateOnVoice wave x)
  | gateOff : VoiceChange wave v x (.gateOff v) (gateOffVoice x)

/-- Everything an operation can do to the state `s`. -/
inductive Effect (s : State) : Instr → State → Prop
  /-- A read, an operation with W = 0, answers and changes nothing else (R76, R120). -/
  | read (i : Instr) (d : Word) (hi : ∃ a, encode i = txn 0 a 0) : Effect s i (respond .ok d s)
  /-- A voice operation without its voice (R200). -/
  | noVoice (i : Instr) (v : BitVec 4) (w : BitVec 1) (a : Addr) (hi : i.voiceIndex = some v) (hv : s.n ≤ v.toNat) :
      Effect s i (raiseBusError .noVoice w a s)
  | wrCtrl (d : Word) : Effect s (.wrCtrl d) (respond .ok 0#32 { s with FILTER_EN := d.getLsbD 0 })
  | wrStatus (d : Word) : Effect s (.wrStatus d) (respond .ok 0#32 (clearStatus d s))
  | wrIrqEn (d : Word) : Effect s (.wrIrqEn d)
      (respond .ok 0#32 { s with IDLE_IE := d.getLsbD 0, ERR_IE := d.getLsbD 1, CLIP_IE := d.getLsbD 2 })
  | commit : Effect s .commit (respond .ok 0#32 { s with active := s.shadow, PENDING := false })
  | filterClear : Effect s .filterClear (respond .ok 0#32 { s with x1 := 0, x2 := 0, y1 := 0, y2 := 0 })
  | softReset : Effect s .softReset (respond .ok 0#32 (resetState s))
  | wrIdleEvents (d : Word) : Effect s (.wrIdleEvents d) (respond .ok 0#32 (clearIdleEvents d s))
  | shadowWrite (p : Param) (d : Word) :
      Effect s (shadowWrite d p) (respond .ok 0#32 (setShadow (storeParam d s.shadow p) s))
  | voice (i : Instr) (v : BitVec 4) (x y : Voice) (hx : s.voice[v.toNat]? = some x)
      (hy : VoiceChange s.active.WAVEFORM v x i y) : Effect s i (respond .ok 0#32 (setVoice v y s))
  | tick : Effect s .tick (tickState s)

/-- A voice operation has an effect when its function of the voice has one. -/
theorem effect_of_withVoice {i : Instr} {v : BitVec 4} {w : BitVec 1} {off : Addr} {s t : State} {f : Voice → Answer}
    (hi : i.voiceIndex = some v) (hf : ∀ x, s.voice[v.toNat]? = some x → f x = .next t → Effect s i t)
    (h : withVoice v w off s f = .next t) : Effect s i t := by
  rcases withVoice_cases v w off s f with ⟨x, hx, hsome⟩ | ⟨hv, hnone⟩
  · exact hf x hx (hsome ▸ h)
  · rw [hnone] at h
    cases h
    exact .noVoice i v w _ hi hv

theorem effect_of_voiceRead {i : Instr} {v : BitVec 4} {off : Addr} {s t : State} {f : Voice → Word}
    (hi : i.voiceIndex = some v) (hr : ∃ a, encode i = txn 0 a 0)
    (h : withVoice v 0#1 off s (fun x => respondOk (f x) s) = .next t) : Effect s i t :=
  effect_of_withVoice hi (fun _ _ hx => respondOk_eq_next.1 hx ▸ .read i _ hr) h

theorem effect_of_voiceWrite {i : Instr} {v : BitVec 4} {off : Addr} {s t : State} {f : Voice → Voice}
    (hi : i.voiceIndex = some v) (hf : ∀ x, VoiceChange s.active.WAVEFORM v x i (f x))
    (h : withVoice v 1#1 off s (fun x => writeDone (setVoice v (f x) s)) = .next t) : Effect s i t :=
  effect_of_withVoice hi (fun x hx ht => writeDone_eq_next.1 ht ▸ .voice i v x _ hx (hf x)) h

theorem effect_of_shadowWrite {p : Param} {d : Word} {s t : State} (h : exec (shadowWrite d p) s = .next t) :
    Effect s (shadowWrite d p) t := by
  rw [exec_shadowWrite, writeDone_eq_next] at h
  exact h ▸ .shadowWrite p d

/-- The inversion of `exec`: what an operation answers is one of its effects. -/
theorem effect_of_exec {i : Instr} {s t : State} (h : exec i s = .next t) : Effect s i t := by
  cases i
  case wrCtrl d => exact writeDone_eq_next.1 h ▸ .wrCtrl d
  case wrStatus d => exact writeDone_eq_next.1 h ▸ .wrStatus d
  case wrIrqEn d => exact writeDone_eq_next.1 h ▸ .wrIrqEn d
  case commit => exact writeDone_eq_next.1 h ▸ .commit
  case filterClear => exact writeDone_eq_next.1 h ▸ .filterClear
  case softReset => exact writeDone_eq_next.1 h ▸ .softReset
  case wrIdleEvents d => exact writeDone_eq_next.1 h ▸ .wrIdleEvents d
  case wrB0 d => exact effect_of_shadowWrite (p := .B0) h
  case wrB1 d => exact effect_of_shadowWrite (p := .B1) h
  case wrB2 d => exact effect_of_shadowWrite (p := .B2) h
  case wrA1 d => exact effect_of_shadowWrite (p := .A1) h
  case wrA2 d => exact effect_of_shadowWrite (p := .A2) h
  case wrAttack d => exact effect_of_shadowWrite (p := .ATTACK) h
  case wrDecay d => exact effect_of_shadowWrite (p := .DECAY) h
  case wrRelease d => exact effect_of_shadowWrite (p := .RELEASE) h
  case wrSustain d => exact effect_of_shadowWrite (p := .SUSTAIN) h
  case wrMixGain d => exact effect_of_shadowWrite (p := .MIX_GAIN) h
  case wrWaveform d => exact effect_of_shadowWrite (p := .WAVEFORM) h
  case wrVPinc v d => exact effect_of_voiceWrite rfl (fun _ => .pinc d) h
  case wrVPhase v d => exact effect_of_voiceWrite rfl (fun _ => .phase d) h
  case gateOn v => exact effect_of_voiceWrite rfl (fun _ => .gateOn) h
  case gateOff v => exact effect_of_voiceWrite rfl (fun _ => .gateOff) h
  case rdVPinc v => exact effect_of_voiceRead rfl ⟨_, rfl⟩ h
  case rdVPhase v => exact effect_of_voiceRead rfl ⟨_, rfl⟩ h
  case rdVEnv v => exact effect_of_voiceRead rfl ⟨_, rfl⟩ h
  case rdVElapsed v => exact effect_of_voiceRead rfl ⟨_, rfl⟩ h
  case rdVStart v => exact effect_of_voiceRead rfl ⟨_, rfl⟩ h
  case rdVWave v => exact effect_of_voiceRead rfl ⟨_, rfl⟩ h
  case tick => cases h; exact .tick
  all_goals exact respondOk_eq_next.1 h ▸ .read _ _ ⟨_, rfl⟩

/-! ### What a step does -/

/-- Everything a step that answers a next state can do to the state `s`. -/
inductive StepEffect (s : State) : State → Prop
  /-- No event, an event that is lost while `rst` is 1, or a level `rst` already has at 0: only the schedule moves on. -/
  | quiet (rest : List Event) : StepEffect s { s with inputs := rest }
  /-- A port word that decodes to an operation runs it (R120). -/
  | op (p : PortWord) (rest : List Event) (i : Instr) (t : State) (hin : s.inputs = .port p :: rest)
      (hd : decode s.n p = .op i) (he : Effect { s with inputs := rest } i t) : StepEffect s t
  /-- A transaction that decodes to an error gets its error response (R302). -/
  | error (w : TxnWord) (rest : List Event) (c : BusError) (hin : s.inputs = .port (.txn w) :: rest)
      (hd : decode s.n (.txn w) = .error c) :
      StepEffect s (raiseBusError c (txnW w) (txnAddr w) { s with inputs := rest })
  /-- The `rst` input rises or falls (R330). -/
  | reset (l : Bool) (rest : List Event) (hin : s.inputs = .rst l :: rest) :
      StepEffect s { resetState { s with inputs := rest } with rst := l }

theorem stepEffect_of_port {s t : State} {p : PortWord} {rest : List Event} (hin : s.inputs = .port p :: rest)
    (h : performPort p { s with inputs := rest } = .next t) : StepEffect s t := by
  rcases performPort_cases p { s with inputs := rest } with
    ⟨-, hp⟩ | ⟨-, i, hd, hp⟩ | ⟨-, w, c, rfl, hd, hp⟩ | ⟨-, -, hp⟩ <;> rw [hp] at h
  case inl => cases h; exact .quiet rest
  case inr.inl => exact .op p rest i t hin hd (effect_of_exec h)
  case inr.inr.inl => cases h; exact .error w rest c hin hd
  case inr.inr.inr => cases h; exact .quiet rest

/-- The inversion of `step`: what a step answers is one of its effects. -/
theorem stepEffect_of_step {s t : State} (h : step s = .next t) : StepEffect s t := by
  rcases step_cases s with ⟨-, hs⟩ | ⟨p, rest, hin, hs⟩ | ⟨l, rest, hin, hs⟩ | ⟨rest, -, -, hs⟩ | ⟨rest, -, -, hs⟩ <;>
    rw [hs] at h
  case inl => cases h; exact .quiet s.inputs
  case inr.inl => exact stepEffect_of_port hin h
  case inr.inr.inl =>
    cases h
    rcases setRst_cases l { s with inputs := rest } with ⟨-, -, hl⟩ | ⟨-, hl⟩ <;> rw [hl]
    · exact .quiet rest
    · exact .reset l rest hin
  case inr.inr.inr.inl => cases h; exact .quiet rest
  case inr.inr.inr.inr => cases h

end Sys2Proof.Machine
end

section
/-! SUPPORT. Which operation writes which field of the state (10_state.md R21, R30 to R37): the statements of this family over all
steps, as case splits over `Effect` and `StepEffect`. -/

namespace Sys2Proof.Machine

/-! ### The parameters of the build (R21, R71) -/

@[simp] theorem respond_n (r : Resp) (d : Word) (s : State) : (respond r d s).n = s.n := rfl

@[simp] theorem raiseBusError_n (c : BusError) (w : BitVec 1) (a : Addr) (s : State) :
    (raiseBusError c w a s).n = s.n := rfl

theorem Effect.keeps_parameters {s t : State} {i : Instr} (h : Effect s i t) : t.n = s.n ∧ t.sineLut = s.sineLut := by
  cases h with
  | softReset => simp
  | voice => simp
  | tick => simp
  | _ => exact ⟨rfl, rfl⟩

/-- Settles O20: no effect of a step writes N or the sine table; a reset makes its voice file of the same N. -/
theorem parametersNeverChange : Obligations.ParametersNeverChange := by
  unfold Obligations.ParametersNeverChange
  intro s t h
  cases stepEffect_of_step h with
  | quiet => exact ⟨rfl, rfl⟩
  | op p rest i t hin hd he => exact he.keeps_parameters
  | error => exact ⟨rfl, rfl⟩
  | reset l rest hin => exact ⟨resetState_n { s with inputs := rest }, rfl⟩

/-! ### The active set (R30) -/

theorem Effect.active_cases {s t : State} {i : Instr} (h : Effect s i t) :
    t.active = s.active ∨ (i = .commit ∧ t.active = s.shadow) ∨ (i = .softReset ∧ t.active = ParamSet.reset s.n) := by
  cases h with
  | commit => exact .inr (.inl ⟨rfl, rfl⟩)
  | softReset => exact .inr (.inr ⟨rfl, rfl⟩)
  | _ => exact .inl rfl

/-- Settles O17: of the effects only COMMIT and the two resets write the active set. -/
theorem activeSetChangesAsAWhole : Obligations.ActiveSetChangesAsAWhole := by
  unfold Obligations.ActiveSetChangesAsAWhole
  intro s t h
  cases stepEffect_of_step h with
  | quiet => exact .inl rfl
  | op p rest i t hin hd he =>
    rcases he.active_cases with hsame | ⟨rfl, hcommit⟩ | ⟨rfl, hreset⟩
    · exact .inl hsame
    · exact .inr (.inl ⟨hcommit, p, rest, hin, hd⟩)
    · exact .inr (.inr ⟨hreset, .inl ⟨p, rest, hin, hd⟩⟩)
  | error => exact .inl rfl
  | reset l rest hin => exact .inr (.inr ⟨rfl, .inr ⟨l, rest, hin⟩⟩)

/-! ### The filter history (R32) -/

theorem Effect.history_cases {s t : State} {i : Instr} (h : Effect s i t) :
    (t.x1 = s.x1 ∧ t.x2 = s.x2 ∧ t.y1 = s.y1 ∧ t.y2 = s.y2) ∨ i = .tick ∨ i = .filterClear ∨ i = .softReset := by
  cases h with
  | tick => exact .inr (.inl rfl)
  | filterClear => exact .inr (.inr (.inl rfl))
  | softReset => exact .inr (.inr (.inr rfl))
  | _ => exact .inl ⟨rfl, rfl, rfl, rfl⟩

/-- Settles O18: of the effects only those of TICK, FILTER_CLEAR and the two resets write the history. -/
theorem filterHistoryWriters : Obligations.FilterHistoryWriters := by
  unfold Obligations.FilterHistoryWriters
  intro s t h
  cases stepEffect_of_step h with
  | quiet => exact .inl ⟨rfl, rfl, rfl, rfl⟩
  | op p rest i t hin hd he =>
    rcases he.history_cases with hsame | rfl | rfl | rfl
    · exact .inl hsame
    · exact .inr (.inr ⟨p, rest, hin, .inl hd⟩)
    · exact .inr (.inr ⟨p, rest, hin, .inr (.inl hd)⟩)
    · exact .inr (.inr ⟨p, rest, hin, .inr (.inr hd)⟩)
  | error => exact .inl ⟨rfl, rfl, rfl, rfl⟩
  | reset l rest hin => exact .inr (.inl ⟨l, rest, hin⟩)

/-! ### The sticky flags (R35, R37) -/

theorem w1c_eq_true {bit flag : Bool} : w1c bit flag = true ↔ flag = true ∧ bit = false := by
  cases bit <;> cases flag <;> decide

theorem stick_of_true {flag set : Bool} (h : flag = true) : stick flag set = true := by
  simp [stick, h]

/-- A flag under a write-1-to-clear bit stays set unless the bit is 1. -/
theorem w1c_or_bit {bit flag : Bool} (h : flag = true) : w1c bit flag = true ∨ bit = true := by
  cases bit
  · exact .inl (w1c_eq_true.2 ⟨h, rfl⟩)
  · exact .inr rfl

theorem getLsbD_voiceBits {n v : Nat} (h : (voiceBits n).getLsbD v = true) : v < n := by
  have hv : v < 16 := BitVec.lt_of_getLsbD h
  rw [voiceBits, getLsbD_bitMask _ _ hv] at h
  by_contra hn
  rw [List.getD_eq_default _ _ (by simpa using hn)] at h
  cases h

/-- WR_IDLE_EVENTS clears a bit only where DATA is 1 and a voice exists (R136). -/
theorem clearIdleEvents_bit {d : Word} {s : State} {v : Nat} (h : s.IDLE_EVENTS.getLsbD v = true) :
    (clearIdleEvents d s).IDLE_EVENTS.getLsbD v = true ∨ (d.getLsbD v = true ∧ v < s.n) := by
  have hv : v < 16 := BitVec.lt_of_getLsbD h
  by_cases hb : d.getLsbD v = true ∧ (voiceBits s.n).getLsbD v = true
  · exact .inr (hb.imp id getLsbD_voiceBits)
  · left
    simpa [h, hv] using not_and_or.1 hb

/-- No operation clears a sticky flag but SOFT_RESET and the W1C write that names it. -/
theorem Effect.flag_clears {s t : State} {i : Instr} (h : Effect s i t) :
    i = .softReset ∨
    ((s.ERR = true → t.ERR = true ∨ ∃ d, i = .wrStatus d ∧ d.getLsbD 0 = true) ∧
     (s.CLIP_MIX = true → t.CLIP_MIX = true ∨ ∃ d, i = .wrStatus d ∧ d.getLsbD 1 = true) ∧
     (s.CLIP_FILT = true → t.CLIP_FILT = true ∨ ∃ d, i = .wrStatus d ∧ d.getLsbD 2 = true) ∧
     (∀ v, s.IDLE_EVENTS.getLsbD v = true → t.IDLE_EVENTS.getLsbD v = true ∨
        ∃ d, i = .wrIdleEvents d ∧ d.getLsbD v = true ∧ v < s.n)) := by
  cases h with
  | softReset => exact .inl rfl
  | wrStatus d =>
    exact .inr ⟨fun hf => (w1c_or_bit hf).imp id fun hb => ⟨d, rfl, hb⟩,
      fun hf => (w1c_or_bit hf).imp id fun hb => ⟨d, rfl, hb⟩,
      fun hf => (w1c_or_bit hf).imp id fun hb => ⟨d, rfl, hb⟩, fun _ => .inl⟩
  | wrIdleEvents d =>
    exact .inr ⟨.inl, .inl, .inl, fun v hf => (clearIdleEvents_bit hf).imp id fun hb => ⟨d, rfl, hb⟩⟩
  | tick =>
    exact .inr ⟨.inl, fun hf => .inl (stick_of_true hf), fun hf => .inl (stick_of_true hf), fun v hf => by simp [hf]⟩
  | noVoice => exact .inr ⟨fun _ => .inl rfl, .inl, .inl, fun _ => .inl⟩
  | _ => exact .inr ⟨.inl, .inl, .inl, fun _ => .inl⟩

/-- Settles O15: an operation clears a flag only as `Effect.flag_clears` says, an error response clears none, and the other
events are no port words. -/
theorem onlyTheseClearFlags : Obligations.OnlyTheseClearFlags := by
  unfold Obligations.OnlyTheseClearFlags
  intro s t h
  cases stepEffect_of_step h with
  | quiet => exact .inr (.inr ⟨.inl, .inl, .inl, fun _ => .inl⟩)
  | op p rest i t hin hd he =>
    rcases he.flag_clears with rfl | ⟨herr, hmix, hfilt, hidle⟩
    · exact .inr (.inl ⟨p, rest, hin, hd⟩)
    · exact .inr (.inr
        ⟨fun hf => (herr hf).imp id fun ⟨d, hi, hb⟩ => ⟨p, rest, d, hin, hi ▸ hd, hb⟩,
         fun hf => (hmix hf).imp id fun ⟨d, hi, hb⟩ => ⟨p, rest, d, hin, hi ▸ hd, hb⟩,
         fun hf => (hfilt hf).imp id fun ⟨d, hi, hb⟩ => ⟨p, rest, d, hin, hi ▸ hd, hb⟩,
         fun v hf => (hidle v hf).imp id fun ⟨d, hi, hb⟩ => ⟨p, rest, d, hin, hi ▸ hd, hb⟩⟩)
  | error => exact .inr (.inr ⟨fun _ => .inl rfl, .inl, .inl, fun _ => .inl⟩)
  | reset l rest hin => exact .inl ⟨l, rest, hin⟩

theorem w1c_of_false {bit flag : Bool} (h : flag = false) : w1c bit flag = false := by
  simp [w1c, h]

/-- A well-formed operation finds its voice. -/
theorem voiceIndex_lt_of_wf {n : Nat} {i : Instr} {v : BitVec 4} (hwf : i.wf n = true) (hi : i.voiceIndex = some v) :
    v.toNat < n := by
  simpa [Instr.wf, hi] using hwf

/-- Settles O16: which field each effect of a well-formed operation can set. -/
theorem onlyTheseSetFlags : Obligations.OnlyTheseSetFlags := by
  unfold Obligations.OnlyTheseSetFlags
  intro s t i hwf h
  cases effect_of_exec h with
  | noVoice i v w a hi hv => exact absurd (voiceIndex_lt_of_wf hwf hi) (by omega)
  | wrCtrl d =>
    exact ⟨id, fun _ => ⟨id, id, fun _ => id⟩, fun _ => id, fun hn => absurd rfl (hn d), fun _ _ => ⟨rfl, rfl, rfl⟩⟩
  | wrStatus d =>
    exact ⟨w1c_of_false, fun _ => ⟨w1c_of_false, w1c_of_false, fun _ => id⟩, fun _ => id, fun _ _ => rfl,
      fun _ _ => ⟨rfl, rfl, rfl⟩⟩
  | wrIrqEn d => exact ⟨id, fun _ => ⟨id, id, fun _ => id⟩, fun _ => id, fun _ _ => rfl, fun hn => absurd rfl (hn d)⟩
  | commit => exact ⟨id, fun _ => ⟨id, id, fun _ => id⟩, fun _ _ => rfl, fun _ _ => rfl, fun _ _ => ⟨rfl, rfl, rfl⟩⟩
  | softReset =>
    exact ⟨fun _ => rfl, fun _ => ⟨fun _ => rfl, fun _ => rfl, fun v _ => by simp⟩, fun _ _ => rfl,
      fun _ hn => absurd rfl hn, fun _ hn => absurd rfl hn⟩
  | wrIdleEvents d =>
    exact ⟨id, fun _ => ⟨id, id, fun v hf => by simp [hf]⟩, fun _ => id, fun _ _ => rfl, fun _ _ => ⟨rfl, rfl, rfl⟩⟩
  | shadowWrite p d =>
    exact ⟨id, fun _ => ⟨id, id, fun _ => id⟩, fun hn => absurd (isShadowWrite_shadowWrite p d) (by simp [hn]),
      fun _ _ => rfl, fun _ _ => ⟨rfl, rfl, rfl⟩⟩
  | tick => exact ⟨id, fun hn => absurd rfl hn, fun _ => id, fun _ _ => rfl, fun _ _ => ⟨rfl, rfl, rfl⟩⟩
  | _ => exact ⟨id, fun _ => ⟨id, id, fun _ => id⟩, fun _ => id, fun _ _ => rfl, fun _ _ => ⟨rfl, rfl, rfl⟩⟩

/-- Bit v of the events a TICK signals is the completion of voice v's Release (R247). -/
theorem getLsbD_tickIdleEvents {s : State} {v : Nat} (hv : v < 16) :
    (tickIdleEvents s).getLsbD v = true ↔
      ∃ x, s.voice[v]? = some x ∧ x.ph = .Release ∧ s.active.RELEASE.toNat ≤ x.k.toNat + 1 := by
  rw [tickIdleEvents, getLsbD_bitMask _ _ hv, List.getD_eq_getElem?_getD, List.getElem?_map]
  cases s.voice[v]? with
  | none => simp
  | some x => simp [releaseCompletes]

/-- Settles O22: TICK ors the completed voices' bits into IDLE_EVENTS. -/
theorem idleEventsFromReleaseOnly : Obligations.IdleEventsFromReleaseOnly := by
  unfold Obligations.IdleEventsFromReleaseOnly
  intro s _
  refine ⟨tickState s, exec_tick s, fun v hv => ?_⟩
  rw [tickState_IDLE_EVENTS, BitVec.getLsbD_or, Bool.or_eq_true, getLsbD_tickIdleEvents hv]

end Sys2Proof.Machine
end

section
/-! SUPPORT. ACTIVE_COUNT and ACTIVE_MASK (10_state.md R40), and the invariants of R45: at reset, and kept by every step. -/

namespace Sys2Proof.Machine

/-! ### The derived values (R40) -/

/-- The positions below n at which a list of at most n flags is set are as many as its set flags. -/
theorem length_filter_range_getD (l : List Bool) (n : Nat) (h : l.length ≤ n) :
    ((List.range n).filter (fun i => l.getD i false)).length = l.count true := by
  induction l generalizing n with
  | nil => simp
  | cons b bs ih =>
    obtain ⟨m, rfl⟩ : ∃ m, n = m + 1 := ⟨n - 1, by simp at h; omega⟩
    have htail := ih m (by simpa using h)
    have hshift : ((List.range m).filter ((fun i => (b :: bs).getD i false) ∘ Nat.succ)).length = bs.count true := by
      rw [← htail]; rfl
    rw [List.range_succ_eq_map, List.filter_cons, List.filter_map]
    cases b <;> simpa using hshift

theorem popcount_bitMask {l : List Bool} (h : l.length ≤ 16) : popcount (bitMask l) = l.count true := by
  rw [← length_filter_range_getD l 16 h, popcount]
  congr 1
  exact List.filter_congr fun i hi => getLsbD_bitMask l i (List.mem_range.1 hi)

/-- ACTIVE_COUNT counts the active voices. -/
theorem activeCount_eq {s : State} (h : s.n ≤ 16) : activeCount s = (s.voice.filter isActive).length := by
  rw [activeCount, activeMask, popcount_bitMask (by simpa [State.n] using h), List.count, List.countP_map,
    List.countP_eq_length_filter]
  congr 2
  funext x
  simp

theorem activeCount_le {s : State} (h : s.n ≤ 16) : activeCount s ≤ s.n :=
  activeCount_eq h ▸ List.length_filter_le isActive s.voice

/-- Bit v of ACTIVE_MASK is voice v's activity. -/
theorem getLsbD_activeMask {s : State} {v : Nat} (hv : v < 16) :
    (activeMask s).getLsbD v = true ↔ ∃ x, s.voice[v]? = some x ∧ x.ph ≠ .Idle := by
  rw [activeMask, getLsbD_bitMask _ _ hv, List.getD_eq_getElem?_getD, List.getElem?_map]
  cases s.voice[v]? with
  | none => simp
  | some x => simp [isActive]

/-- Settles O57: the mask is read bit by bit, and its bits are counted along the voice file. -/
theorem activeCountIsAtMostN : Obligations.ActiveCountIsAtMostN := by
  unfold Obligations.ActiveCountIsAtMostN
  intro s hn
  exact ⟨activeCount_eq hn, activeCount_le hn, fun v hv => getLsbD_activeMask hv⟩

/-! ### A voice's invariants (R45, points 1 to 3) -/

theorem voiceInv_reset : VoiceInv Voice.reset := by decide

/-- On the line a level stays between the ends of the ramp, so at most 1.0 (R242). -/
theorem rampLevel_le {S T : Level} {k D : Nat} (hS : S.toNat ≤ 0x8000) (hT : T.toNat ≤ 0x8000) (hk : k < D) :
    (rampLevel S T k D).toNat ≤ 0x8000 := by
  obtain ⟨hup, hdown⟩ := tdiv_part_bounds ((T.toNat : Int) - (S.toNat : Int)) (by omega : 0 < D) hk.le
  have hlevel : 0 ≤ (S.toNat : Int) + tdiv (((T.toNat : Int) - (S.toNat : Int)) * k) D ∧
      (S.toNat : Int) + tdiv (((T.toNat : Int) - (S.toNat : Int)) * k) D ≤ 0x8000 := by
    rcases le_total (0 : Int) ((T.toNat : Int) - (S.toNat : Int)) with hd | hd
    · obtain ⟨hlo, hhi⟩ := hup hd
      omega
    · obtain ⟨hlo, hhi⟩ := hdown hd
      omega
  rw [rampLevel, BitVec.toNat_ofInt]
  omega

/-- A ramp step keeps a voice's invariants when the completion does. -/
theorem rampStep_voiceInv {T : Level} {D : Ticks} {c : Voice → Voice} {x : Voice} (hT : T.toNat ≤ 0x8000)
    (hidle : x.ph ≠ .Idle) (hx : VoiceInv x) (hc : VoiceInv (c x)) : VoiceInv (rampStep T D c x) := by
  rcases rampStep_cases T D c x with ⟨hk, hr⟩ | ⟨-, hr⟩ <;> rw [hr]
  · obtain ⟨-, hS, -, -⟩ := hx
    have hD := D.isLt
    refine ⟨rampLevel_le hS hT hk, hS, fun h => absurd h hidle, fun _ => ?_⟩
    simp only [BitVec.toNat_ofNat]
    omega
  · exact hc

theorem enterSustain_voiceInv {T : Level} (hT : T.toNat ≤ 0x8000) (x : Voice) : VoiceInv (enterSustain T x) :=
  ⟨hT, hT, by simp [enterSustain], by simp [enterSustain]⟩

theorem attackDone_voiceInv {P : ParamSet} (hP : P.SUSTAIN.toNat ≤ 0x8000) (x : Voice) : VoiceInv (attackDone P x) := by
  unfold attackDone
  split
  · exact enterSustain_voiceInv hP x
  · exact ⟨by simp [levelOne], by simp [levelOne], by simp, by simp⟩

theorem releaseDone_voiceInv (x : Voice) : VoiceInv (releaseDone x) := by
  simp [releaseDone]

/-- EnvStep keeps a voice's invariants (R240 to R247). -/
theorem envStep_voiceInv {P : ParamSet} {x : Voice} (hP : P.SUSTAIN.toNat ≤ 0x8000) (hx : VoiceInv x) :
    VoiceInv (envStep P x) := by
  cases hph : x.ph with
  | Idle => rwa [envStep, hph]
  | Attack =>
    rw [envStep_Attack hph]
    exact rampStep_voiceInv (by decide) (by simp [hph]) hx (attackDone_voiceInv hP x)
  | Decay =>
    rw [envStep_Decay hph]
    exact rampStep_voiceInv hP (by simp [hph]) hx (enterSustain_voiceInv hP x)
  | Sustain =>
    rw [envStep_Sustain hph]
    obtain ⟨-, hS, -, -⟩ := hx
    exact ⟨hP, hS, by simp [hph], by simp [hph]⟩
  | Release =>
    rw [envStep_Release hph]
    exact rampStep_voiceInv (by decide) (by simp [hph]) hx (releaseDone_voiceInv x)

theorem tickVoice_voiceInv {P : ParamSet} {x : Voice} (hP : P.SUSTAIN.toNat ≤ 0x8000) (hx : VoiceInv x) :
    VoiceInv (tickVoice P x) := by
  unfold tickVoice
  split
  · exact hx
  · exact envStep_voiceInv hP hx

theorem gateOnVoice_voiceInv (wave : BitVec 2) {x : Voice} (hx : VoiceInv x) : VoiceInv (gateOnVoice wave x) := by
  obtain ⟨hL, -, -, -⟩ := hx
  exact ⟨hL, hL, by simp [gateOnVoice], by simp [gateOnVoice]⟩

theorem gateOffVoice_voiceInv {x : Voice} (hx : VoiceInv x) : VoiceInv (gateOffVoice x) := by
  obtain ⟨hL, -, -, -⟩ := id hx
  unfold gateOffVoice
  split
  case h_4 | h_5 => exact hx
  all_goals exact ⟨hL, hL, by simp, by simp⟩

/-- Every write of a voice keeps its invariants. -/
theorem VoiceChange.voiceInv {wave : BitVec 2} {v : BitVec 4} {x y : Voice} {i : Instr}
    (h : VoiceChange wave v x i y) (hx : VoiceInv x) : VoiceInv y := by
  cases h with
  | pinc => exact hx
  | phase => exact hx
  | gateOn => exact gateOnVoice_voiceInv wave hx
  | gateOff => exact gateOffVoice_voiceInv hx

/-! ### The state's invariants at reset -/

theorem bounds_resetOf {c : Config} (h : c.wf = true) : Bounds (State.resetOf c) := by
  simp only [Config.wf, Bool.and_eq_true, decide_eq_true_eq] at h
  obtain ⟨⟨h1, h16⟩, hsine⟩ := h
  have hn : (State.resetOf c).n = c.n := List.length_replicate
  have hsustain : (ParamSet.reset c.n).SUSTAIN.toNat ≤ 0x8000 := by simp [ParamSet.reset]
  refine ⟨hn ▸ ⟨h1, h16⟩, hsine, fun x hx => ?_, ⟨hsustain, hsustain⟩, Nat.two_pow_pos _, by simp [State.resetOf],
    by simp [State.resetOf]⟩
  rw [List.eq_of_mem_replicate hx]
  exact voiceInv_reset

theorem inv_resetOf {c : Config} (h : c.wf = true) : Inv (State.resetOf c) :=
  ⟨bounds_resetOf h, fun _ => rfl⟩

/-- Settles O10: every well-formed choice of the parameters resets into the invariants, and the defaults are one. -/
theorem resetMeetsInvariants : Obligations.ResetMeetsInvariants := by
  unfold Obligations.ResetMeetsInvariants
  exact ⟨fun _ => inv_resetOf, inv_resetOf (c := Config.standard) rfl⟩

/-! ### The state's invariants under an operation -/

theorem bounds_resetState {s : State} (h : Bounds s) : Bounds (resetState s) := by
  obtain ⟨⟨h1, h16⟩, hsine, -⟩ := h
  exact bounds_resetOf (c := configOf s) (by simp [Config.wf, configOf, h1, h16, hsine])

theorem errorCode_range (c : BusError) : (errorCode c).toNat ≤ 6 ∧ errorCode c ≠ 0#4 := by
  cases c <;> decide

theorem bounds_raiseBusError {c : BusError} {w : BitVec 1} {a : Addr} {s : State} (h : Bounds s) :
    Bounds (raiseBusError c w a s) := by
  obtain ⟨hn, hsine, hvoice, hsustain, hidle, hcode, herr⟩ := h
  refine ⟨hn, hsine, hvoice, hsustain, hidle, ?_⟩
  rw [raiseBusError_ERR_INFO]
  split
  · rename_i he
    exact ⟨hcode, fun _ => herr he⟩
  · exact (errorCode_range c).imp id fun hne _ => hne

theorem storedSustain_le (d : Word) : (storedSustain d).toNat ≤ 0x8000 := by
  simp only [storedSustain]
  split
  · assumption
  · decide

theorem storeParam_SUSTAIN_le {P : ParamSet} (d : Word) (p : Param) (hP : P.SUSTAIN.toNat ≤ 0x8000) :
    (storeParam d P p).SUSTAIN.toNat ≤ 0x8000 := by
  cases p with
  | SUSTAIN => exact storedSustain_le d
  | _ => exact hP

theorem bounds_setVoice {v : BitVec 4} {y : Voice} {s : State} (h : Bounds s) (hy : VoiceInv y) :
    Bounds (setVoice v y s) := by
  obtain ⟨hn, hsine, hvoice, hsustain, hidle, herr⟩ := h
  refine ⟨by rwa [setVoice_n], hsine, fun x hx => ?_, hsustain, by rwa [setVoice_n], herr⟩
  rcases List.mem_or_eq_of_mem_set hx with hold | rfl
  · exact hvoice x hold
  · exact hy

theorem bounds_tickState {s : State} (h : Bounds s) : Bounds (tickState s) := by
  obtain ⟨hn, hsine, hvoice, ⟨hshadow, hactive⟩, hidle, herr⟩ := h
  refine ⟨by rwa [tickState_n], hsine, fun y hy => ?_, ⟨hshadow, hactive⟩, ?_, herr⟩
  · obtain ⟨x, hx, rfl⟩ := List.mem_map.1 hy
    exact tickVoice_voiceInv hactive (hvoice x hx)
  · rw [tickState_n, tickState_IDLE_EVENTS, BitVec.toNat_or]
    have hset : (tickIdleEvents s).toNat < 2 ^ s.n := by
      simpa [State.n, tickIdleEvents] using bitMask_toNat_lt (s.voice.map (releaseCompletes s.active))
    exact Nat.or_lt_two_pow hidle hset

theorem clearIdleEvents_le (d : Word) (s : State) : (clearIdleEvents d s).IDLE_EVENTS.toNat ≤ s.IDLE_EVENTS.toNat := by
  rw [clearIdleEvents_IDLE_EVENTS, BitVec.toNat_and]
  exact Nat.and_le_left

/-- Every operation keeps the bounds. -/
theorem Effect.bounds {s t : State} {i : Instr} (h : Effect s i t) (hs : Bounds s) : Bounds t := by
  obtain ⟨hn, hsine, hvoice, ⟨hshadow, hactive⟩, hidle, hcode, herr⟩ := id hs
  cases h with
  | noVoice => exact bounds_raiseBusError hs
  | wrStatus d => exact ⟨hn, hsine, hvoice, ⟨hshadow, hactive⟩, hidle, hcode, fun hf => herr (w1c_eq_true.1 hf).1⟩
  | commit => exact ⟨hn, hsine, hvoice, ⟨hshadow, hshadow⟩, hidle, hcode, herr⟩
  | softReset => exact bounds_resetState hs
  | wrIdleEvents d =>
    exact ⟨hn, hsine, hvoice, ⟨hshadow, hactive⟩, (clearIdleEvents_le d s).trans_lt hidle, hcode, herr⟩
  | shadowWrite p d => exact ⟨hn, hsine, hvoice, ⟨storeParam_SUSTAIN_le d p hshadow, hactive⟩, hidle, hcode, herr⟩
  | voice i v x y hx hy => exact bounds_setVoice hs (hy.voiceInv (hvoice x (List.mem_of_getElem? hx)))
  | tick => exact bounds_tickState hs
  | _ => exact hs

/-- Every operation keeps the active set equal to the shadow set while PENDING is 0. -/
theorem Effect.published {s t : State} {i : Instr} (h : Effect s i t) (hs : Published s) : Published t := by
  cases h with
  | commit => exact fun _ => rfl
  | softReset => exact fun _ => rfl
  | shadowWrite => exact fun hp => by cases hp
  | _ => exact hs

/-! ### The state's invariants under a step -/

theorem StepEffect.bounds {s t : State} (h : StepEffect s t) (hs : Bounds s) : Bounds t := by
  cases h with
  | quiet => exact hs
  | op p rest i t hin hd he => exact he.bounds hs
  | error => exact bounds_raiseBusError (s := { s with inputs := _ }) hs
  | reset l rest hin => exact bounds_resetState (s := { s with inputs := rest }) hs

theorem StepEffect.published {s t : State} (h : StepEffect s t) (hs : Published s) : Published t := by
  cases h with
  | quiet => exact hs
  | op p rest i t hin hd he => exact he.published hs
  | error => exact hs
  | reset => exact fun _ => rfl

theorem activeCount_le_of_bounds {s : State} (h : Bounds s) : activeCount s ≤ s.n := by
  obtain ⟨⟨-, h16⟩, -⟩ := h
  exact activeCount_le h16

/-- Settles O9: every effect of a step keeps the bounds and keeps the sets published. -/
theorem stepKeepsInvariants : Obligations.StepKeepsInvariants := by
  unfold Obligations.StepKeepsInvariants
  intro s t h
  have he := stepEffect_of_step h
  constructor
  · rintro ⟨hb, hp⟩
    exact ⟨⟨he.bounds hb, he.published hp⟩, activeCount_le_of_bounds (he.bounds hb)⟩
  · intro hb
    exact ⟨he.bounds hb, activeCount_le_of_bounds (he.bounds hb)⟩

end Sys2Proof.Machine
end

section
/-! SUPPORT. The register map (10_state.md R46) is one to one, and how the decoder reads a register's address (30_encoding.md R97). -/

namespace Sys2Proof

/-! ### Addresses (R92) -/

theorem addrAlign_eq_zero_iff (a : Addr) : addrAlign a = 0#2 ↔ a.toNat % 4 = 0 := by
  rw [← BitVec.toNat_inj, addrAlign, BitVec.extractLsb'_toNat]
  simp

theorem addrAlign_addr (r : Reg) : addrAlign r.addr = 0#2 := by
  cases r with
  | shadow p => cases p <;> decide
  | act p => cases p <;> decide
  | voice v q => exact (voiceAddr_fields v q).1
  | _ => decide

/-- The map reads each register's address as that register. -/
theorem regOf_addr (r : Reg) : regOf r.addr = some r := by
  cases r with
  | shadow p => cases p <;> rfl
  | act p => cases p <;> rfl
  | voice v q =>
    obtain ⟨-, hhalf, hv, hq⟩ := voiceAddr_fields v q
    simp [Reg.addr, regOf, hhalf, hv, hq]
  | _ => rfl

theorem addr_of_globalRegOf {a : Addr} {r : Reg} (h : globalRegOf a = some r) : r.addr = a := by
  unfold globalRegOf at h
  split at h <;> cases h <;> exact BitVec.eq_of_toNat_eq (Eq.symm ‹_›)

theorem offset_of_voiceRegOf {g : BitVec 3} {q : VoiceReg} (h : voiceRegOf g = some q) :
    q.offset.toNat = 4 * g.toNat := by
  unfold voiceRegOf at h
  split at h <;> cases h <;> simp only [*] <;> rfl

/-- An aligned address in the voice half is 0x200 + 0x20·VIDX + 4·VREG (R92). -/
theorem addr_of_voiceRegOf {a : Addr} {q : VoiceReg} (halign : a.toNat % 4 = 0) (hhalf : addrInVoiceHalf a = true)
    (hq : voiceRegOf (addrVoiceReg a) = some q) : voiceAddr (addrVoice a) q.offset = a := by
  have hoff := offset_of_voiceRegOf hq
  have ha := a.isLt
  simp only [addrInVoiceHalf, BitVec.getLsbD, Nat.testBit_eq_decide_div_mod_eq, decide_eq_true_eq] at hhalf
  rw [addrVoiceReg, BitVec.extractLsb'_toNat, Nat.shiftRight_eq_div_pow] at hoff
  apply BitVec.eq_of_toNat_eq
  simp only [voiceAddr, addrVoice, BitVec.toNat_add, BitVec.toNat_mul, BitVec.toNat_setWidth, BitVec.extractLsb'_toNat,
    Nat.shiftRight_eq_div_pow, BitVec.toNat_ofNat, hoff]
  omega

theorem addr_of_regOf {a : Addr} {r : Reg} (halign : a.toNat % 4 = 0) (h : regOf a = some r) : r.addr = a := by
  unfold regOf at h
  split at h
  · obtain ⟨q, hq, rfl⟩ := Option.map_eq_some_iff.1 h
    exact addr_of_voiceRegOf halign ‹_› hq
  · exact addr_of_globalRegOf h

/-- Settles O8: `regOf` inverts `Reg.addr` on both sides. -/
theorem registerMapIsOneToOne : Obligations.RegisterMapIsOneToOne := by
  unfold Obligations.RegisterMapIsOneToOne
  refine ⟨fun r => ⟨(addrAlign_eq_zero_iff _).1 (addrAlign_addr r), regOf_addr r⟩, fun r q h => ?_,
    fun _ _ => addr_of_regOf, fun p => by cases p <;> rfl⟩
  have hsame : some r = some q := by rw [← regOf_addr r, ← regOf_addr q, h]
  exact Option.some.inj hsame

/-! ### The decoder at a register's address (R97) -/

/-- The register is one of a block of `n` voices. -/
def Reg.inBlock (n : Nat) : Reg → Prop
  | .voice v _ => v.toNat < n
  | _ => True

/-- The decoder's test for NO_VOICE is whether the register is one of the block's. -/
theorem noVoice_addr_iff (n : Nat) (r : Reg) :
    (addrInVoiceHalf r.addr = true ∧ n ≤ (addrVoice r.addr).toNat) ↔ ¬ r.inBlock n := by
  cases r with
  | voice v q =>
    obtain ⟨-, hhalf, hv, -⟩ := voiceAddr_fields v q
    simp [Reg.addr, Reg.inBlock, hhalf, hv]
  | shadow p => cases p <;> simp [Reg.inBlock, Reg.addr, addrInVoiceHalf]
  | act p => cases p <;> simp [Reg.inBlock, Reg.addr, addrInVoiceHalf]
  | _ => simp [Reg.inBlock, Reg.addr, addrInVoiceHalf]

theorem decode_addr_noVoice {n : Nat} {r : Reg} (w : BitVec 1) (d : Word) (h : ¬ r.inBlock n) :
    decode n (txn w r.addr d) = .error .noVoice := by
  simp [decode_txn, decodeFields, addrAlign_addr, (noVoice_addr_iff n r).2 h]

theorem decode_read {n : Nat} {r : Reg} {i : Instr} (d : Word) (h : r.inBlock n) (hi : readOp r = some i) :
    decode n (txn 0#1 r.addr d) = .op i := by
  have hvoice := fun hno => (noVoice_addr_iff n r).1 hno h
  rw [decode_txn, decodeFields, if_neg (by simp [addrAlign_addr]), if_neg hvoice, regOf_addr]
  simp [hi]

theorem decode_read_writeOnly {n : Nat} {r : Reg} (d : Word) (h : r.inBlock n) (hi : readOp r = none) :
    decode n (txn 0#1 r.addr d) = .error .woRead := by
  have hvoice := fun hno => (noVoice_addr_iff n r).1 hno h
  rw [decode_txn, decodeFields, if_neg (by simp [addrAlign_addr]), if_neg hvoice, regOf_addr]
  simp [hi]

theorem decode_write {n : Nat} {r : Reg} {i : Instr} {d : Word} (h : r.inBlock n) (hi : writeOp r d = some i) :
    decode n (txn 1#1 r.addr d) = .op i := by
  have hvoice := fun hno => (noVoice_addr_iff n r).1 hno h
  have hro : r.access ≠ .ro := fun hro => by simp [(writeOp_eq_none_iff r d).2 (.inl hro)] at hi
  rw [decode_txn, decodeFields, if_neg (by simp [addrAlign_addr]), if_neg hvoice, regOf_addr]
  simp [hi, hro]

end Sys2Proof
end

section
/-! SUPPORT. Reads and writes over the bus (40_bus_global.md R120): the image of every register as the number of R46, and shadow
writes read back (10_state.md R29, 41_parameters.md R161). -/

namespace Sys2Proof.Machine

/-! ### A port word, as the step runs it -/

theorem performPort_of_op {s : State} {p : PortWord} {i : Instr} (hrst : s.rst = false) (hd : decode s.n p = .op i) :
    performPort p s = exec i s := by
  simp [performPort, hrst, hd, performDecoded]

theorem performPort_of_error {s : State} {w : TxnWord} {c : BusError} (hrst : s.rst = false)
    (hd : decode s.n (.txn w) = .error c) :
    performPort (.txn w) s = .next (raiseBusError c (txnW w) (txnAddr w) s) := by
  simp [performPort, hrst, hd, performDecoded]

theorem step_of_port {s : State} {p : PortWord} {rest : List Event} (hin : s.inputs = .port p :: rest) :
    step s = performPort p { s with inputs := rest } := by
  simp [step, hin, performEvent]

theorem step_of_op {s : State} {p : PortWord} {rest : List Event} {i : Instr} (hrst : s.rst = false)
    (hin : s.inputs = .port p :: rest) (hd : decode s.n p = .op i) : step s = exec i { s with inputs := rest } :=
  (step_of_port hin).trans (performPort_of_op (s := { s with inputs := rest }) hrst hd)

theorem step_of_error {s : State} {w : TxnWord} {rest : List Event} {c : BusError} (hrst : s.rst = false)
    (hin : s.inputs = .port (.txn w) :: rest) (hd : decode s.n (.txn w) = .error c) :
    step s = .next (raiseBusError c (txnW w) (txnAddr w) { s with inputs := rest }) :=
  (step_of_port hin).trans (performPort_of_error (s := { s with inputs := rest }) hrst hd)

/-- With `rst` at 0, an operation's word presented first is taken, and the schedule is as before. -/
theorem step_presentFirst_of_op {s : State} {p : PortWord} {i : Instr} (hrst : s.rst = false)
    (hd : decode s.n p = .op i) : step (presentFirst p s) = exec i s := by
  have htaken : { presentFirst p s with inputs := s.inputs } = s := by simp [presentFirst, ← hrst]
  exact (step_of_op (s := presentFirst p s) rfl rfl hd).trans (congrArg (exec i) htaken)

/-! ### Images as numbers (R11, R46) -/

theorem zext_toNat {w : Nat} (v : BitVec w) (h : w ≤ 32) : (zext v).toNat = v.toNat := by
  rw [zext, BitVec.toNat_setWidth]
  exact Nat.mod_eq_of_lt (v.isLt.trans_le (Nat.pow_le_pow_right (by omega) h))

theorem zext_ofNat_toNat {k : Nat} (h : k ≤ 16) : (zext (BitVec.ofNat 5 k)).toNat = k := by
  rw [zext_toNat _ (by omega), BitVec.toNat_ofNat]
  omega

theorem sext16_toNat (v : Sample) : (sext16 v).toNat = sextValue v := by
  rw [sext16, BitVec.signExtend, BitVec.toNat_ofInt, sextValue]
  rfl

theorem toNat_flagBit (b : Bool) : (flagBit b).toNat = flagValue b := by
  cases b <;> rfl

/-- Concatenation as a number: the high part stands above the low part's bits. -/
theorem toNat_append_eq_add {m n : Nat} (x : BitVec m) (y : BitVec n) : (x ++ y).toNat = x.toNat * 2 ^ n + y.toNat := by
  rw [BitVec.toNat_append, ← Nat.shiftLeft_add_eq_or_of_lt y.isLt, Nat.shiftLeft_eq]

theorem statusImage_toNat (s : State) : (statusImage s).toNat =
    flagValue s.ERR + 2 * flagValue s.CLIP_MIX + 4 * flagValue s.CLIP_FILT + 8 * flagValue s.PENDING := by
  simp only [statusImage, toNat_append_eq_add, toNat_flagBit, BitVec.toNat_ofNat]
  omega

theorem statusImage_pending (s : State) : (statusImage s).getLsbD 3 = s.PENDING := by
  simp only [statusImage, BitVec.getLsbD_append]
  simp [flagBit]

theorem irqEnImage_toNat (s : State) :
    (irqEnImage s).toNat = flagValue s.IDLE_IE + 2 * flagValue s.ERR_IE + 4 * flagValue s.CLIP_IE := by
  simp only [irqEnImage, toNat_append_eq_add, toNat_flagBit, BitVec.toNat_ofNat]
  omega

theorem errInfoImage_toNat (e : ErrInfo) :
    (errInfoImage e).toNat = e.CODE.toNat + 2 ^ 16 * e.ADDR.toNat + 2 ^ 31 * e.W.toNat := by
  simp only [errInfoImage, toNat_append_eq_add, BitVec.toNat_ofNat]
  omega

theorem envImage_toNat (x : Voice) : (envImage x).toNat = x.L.toNat * 2 ^ 16 + (phaseCode x.ph).toNat := by
  simp only [envImage, toNat_append_eq_add, BitVec.toNat_ofNat]
  omega

/-- The mask of a list of at most 16 flags, as a number. -/
theorem bitMask_cons_toNat (b : Bool) {l : List Bool} (h : l.length < 16) :
    (bitMask (b :: l)).toNat = 2 * (bitMask l).toNat + b.toNat := by
  have hlt : (bitMask l).toNat < 2 ^ 15 :=
    (bitMask_toNat_lt l).trans_le (Nat.pow_le_pow_right (by omega) (by omega))
  have hshift : (bitMask l <<< 1).toNat = (bitMask l).toNat <<< 1 := by
    rw [BitVec.toNat_shiftLeft, Nat.shiftLeft_eq]
    omega
  have hbit : ((BitVec.ofBool b).setWidth 16).toNat = b.toNat := by cases b <;> rfl
  rw [bitMask, BitVec.toNat_or, hshift, hbit, ← Nat.shiftLeft_add_eq_or_of_lt (Bool.toNat_lt b), Nat.shiftLeft_eq]
  omega

theorem activeMaskValue_eq (v : Nat) (xs : List Voice) (h : xs.length ≤ 16) :
    activeMaskValue v xs = 2 ^ v * (bitMask (xs.map isActive)).toNat := by
  induction xs generalizing v with
  | nil => simp [activeMaskValue, bitMask]
  | cons x xs ih =>
    have hlen : xs.length < 16 := by simpa using h
    rw [activeMaskValue, ih (v + 1) hlen.le, List.map_cons, bitMask_cons_toNat _ (by simpa using hlen), pow_succ]
    by_cases hx : x.ph = .Idle <;> simp [isActive, hx] <;> ring

theorem activeMask_toNat {s : State} (h : s.n ≤ 16) : (activeMask s).toNat = activeMaskValue 0 s.voice := by
  rw [activeMaskValue_eq 0 s.voice h, activeMask, pow_zero, one_mul]

/-! ### What each read answers -/

/-- A read of register `r` in state `s` completes with the number `k`, and changes nothing else. -/
def ReadAnswers (s : State) (r : Reg) (k : Nat) : Prop :=
  ∃ i d, readOp r = some i ∧ exec i s = .next (answered d s) ∧ d.toNat = k

theorem readAnswers_shadow (s : State) (p : Param) : ReadAnswers s (.shadow p) (paramValue s.shadow p) := by
  cases p with
  | B0 | B1 | B2 | A1 | A2 => exact ⟨_, _, rfl, rfl, rfl⟩
  | _ => exact ⟨_, _, rfl, rfl, zext_toNat _ (by omega)⟩

theorem readAnswers_act (s : State) (p : Param) : ReadAnswers s (.act p) (paramValue s.active p) := by
  cases p with
  | B0 | B1 | B2 | A1 | A2 => exact ⟨_, _, rfl, rfl, rfl⟩
  | _ => exact ⟨_, _, rfl, rfl, zext_toNat _ (by omega)⟩

theorem readAnswers_voice {s : State} {v : BitVec 4} {x : Voice} {q : VoiceReg} {k : Nat}
    (hx : s.voice[v.toNat]? = some x) (h : voiceRegValue x q = some k) : ReadAnswers s (.voice v q) k := by
  cases q <;> cases h
  case V_PINC => exact ⟨_, _, rfl, withVoice_of_some hx, rfl⟩
  case V_PHASE => exact ⟨_, _, rfl, withVoice_of_some hx, rfl⟩
  case V_ENV => exact ⟨_, _, rfl, withVoice_of_some hx, envImage_toNat x⟩
  case V_ELAPSED => exact ⟨_, _, rfl, withVoice_of_some hx, zext_toNat _ (by omega)⟩
  case V_START => exact ⟨_, _, rfl, withVoice_of_some hx, zext_toNat _ (by omega)⟩
  case V_WAVE => exact ⟨_, _, rfl, withVoice_of_some hx, zext_toNat _ (by omega)⟩

/-- Every register the map gives a value answers it. -/
theorem readAnswers_of_regValue {s : State} {r : Reg} {k : Nat} (hn : s.n ≤ 16) (h : regValue s r = some k) :
    ReadAnswers s r k := by
  cases r with
  | voice v q =>
    obtain ⟨x, hx, hk⟩ := Option.bind_eq_some_iff.1 h
    exact readAnswers_voice hx hk
  | shadow p => cases h; exact readAnswers_shadow s p
  | act p => cases h; exact readAnswers_act s p
  | COMMAND => cases h
  | ID | SAMPLE_COUNT => cases h; exact ⟨_, _, rfl, rfl, rfl⟩
  | CONFIG => cases h; exact ⟨_, _, rfl, rfl, zext_ofNat_toNat hn⟩
  | CTRL => cases h; exact ⟨_, _, rfl, rfl, (zext_toNat _ (by omega)).trans (toNat_flagBit _)⟩
  | STATUS => cases h; exact ⟨_, _, rfl, rfl, statusImage_toNat s⟩
  | IRQ_EN => cases h; exact ⟨_, _, rfl, rfl, irqEnImage_toNat s⟩
  | ERR_INFO => cases h; exact ⟨_, _, rfl, rfl, errInfoImage_toNat _⟩
  | IDLE_EVENTS => cases h; exact ⟨_, _, rfl, rfl, zext_toNat _ (by omega)⟩
  | ACTIVE_MASK => cases h; exact ⟨_, _, rfl, rfl, (zext_toNat _ (by omega)).trans (activeMask_toNat hn)⟩
  | ACTIVE_COUNT =>
    cases h
    exact ⟨_, _, rfl, rfl, (zext_ofNat_toNat ((activeCount_le hn).trans hn)).trans (activeCount_eq hn)⟩
  | MIX_OUT | LAST_OUT | X1 | X2 | Y1 | Y2 => cases h; exact ⟨_, _, rfl, rfl, sext16_toNat _⟩

/-- The map gives a register of the block no value only if it is write-only. -/
theorem readOp_eq_none_of_regValue {s : State} {r : Reg} (hr : r.inBlock s.n) (h : regValue s r = none) :
    readOp r = none := by
  cases r with
  | COMMAND => rfl
  | voice v q =>
    obtain ⟨x, hx⟩ := voice_exists hr
    cases q with
    | V_VCMD => rfl
    | _ => simp [regValue, hx, voiceRegValue] at h
  | _ => cases h

theorem inBlock_of_regValue {s : State} {r : Reg} {k : Nat} (h : regValue s r = some k) : r.inBlock s.n := by
  cases r with
  | voice v q =>
    obtain ⟨x, hx, -⟩ := Option.bind_eq_some_iff.1 h
    exact (List.getElem?_eq_some_iff.1 hx).1
  | _ => trivial

/-! ### Reads over the bus -/

theorem step_read {s : State} {r : Reg} {k : Nat} {data : Word} {rest : List Event} (hrst : s.rst = false)
    (hin : s.inputs = .port (txn 0#1 r.addr data) :: rest) (hr : r.inBlock s.n)
    (h : ReadAnswers { s with inputs := rest } r k) :
    ∃ d : Word, step s = .next (answered d { s with inputs := rest }) ∧ d.toNat = k := by
  obtain ⟨i, d, hi, hexec, hk⟩ := h
  exact ⟨d, (step_of_op hrst hin (decode_read data hr hi)).trans hexec, hk⟩

theorem regValue_inputs (s : State) (rest : List Event) (r : Reg) :
    regValue { s with inputs := rest } r = regValue s r := by
  cases r <;> rfl

/-- Settles O31: a register with a value answers it; one without is rejected by the decoder, as NO_VOICE or WO_READ. -/
theorem registerReadsRefineTheRegisterMap : Obligations.RegisterReadsRefineTheRegisterMap := by
  unfold Obligations.RegisterReadsRefineTheRegisterMap
  intro s r data rest hn hrst hin
  constructor
  · intro k hk
    exact step_read hrst hin (inBlock_of_regValue hk) (readAnswers_of_regValue hn ((regValue_inputs s rest r).trans hk))
  · intro hnone
    have hd : ∃ c, decode s.n (txn 0#1 r.addr data) = .error c := by
      by_cases hr : r.inBlock s.n
      · exact ⟨_, decode_read_writeOnly data hr (readOp_eq_none_of_regValue hr hnone)⟩
      · exact ⟨_, decode_addr_noVoice 0#1 data hr⟩
    obtain ⟨c, hc⟩ := hd
    exact ⟨_, step_of_error hrst hin hc, rfl, rfl⟩

/-- A read presented first, in a state with rst at 0. -/
theorem step_presentFirst_read {s : State} {r : Reg} {k : Nat} (data : Word) (hrst : s.rst = false)
    (hr : r.inBlock s.n) (h : ReadAnswers s r k) :
    ∃ d : Word, step (presentFirst (txn 0#1 r.addr data) s) = .next (answered d s) ∧ d.toNat = k := by
  obtain ⟨i, d, hi, hexec, hk⟩ := h
  exact ⟨d, (step_presentFirst_of_op hrst (decode_read data hr hi)).trans hexec, hk⟩

/-! ### Shadow writes over the bus -/

theorem storedTicks_toNat (d : Word) : (storedTicks d).toNat = d.toNat % 2 ^ 24 := by
  simp [storedTicks]

theorem storedSustain_toNat (d : Word) : (storedSustain d).toNat = min (d.toNat % 2 ^ 16) 0x8000 := by
  have hd : (d.extractLsb' 0 16).toNat = d.toNat % 2 ^ 16 := by simp
  simp only [storedSustain, hd]
  split
  · rw [hd]; omega
  · rw [BitVec.toNat_ofNat]; omega

theorem storedGain_toNat (d : Word) : (storedGain d).toNat = d.toNat % 2 ^ 16 := by
  simp [storedGain]

theorem storedWaveform_toNat (d : Word) : (storedWaveform d).toNat = d.toNat % 4 := by
  simp [storedWaveform]

/-- A shadow write presented first stores the legalised value and sets PENDING (R161). -/
theorem step_presentFirst_shadowWrite {s : State} (p : Param) (data : Word) (hrst : s.rst = false) :
    step (presentFirst (txn 1#1 (Reg.shadow p).addr data) s) =
      .next (respond .ok 0#32 (setShadow (storeParam data s.shadow p) s)) := by
  have hd : decode s.n (txn 1#1 (Reg.shadow p).addr data) = .op (shadowWrite data p) :=
    decode_write (r := .shadow p) trivial (writeOp_shadow p data)
  rw [step_presentFirst_of_op hrst hd, exec_shadowWrite]
  rfl

/-- Settles O33: the write stores the legalised field, and the reads after it answer the fields as they then stand. -/
theorem shadowWriteReadsBack : Obligations.ShadowWriteReadsBack := by
  unfold Obligations.ShadowWriteReadsBack
  intro s t p data e hrst h
  rw [step_presentFirst_shadowWrite p data hrst] at h
  cases h
  set t := respond .ok 0#32 (setShadow (storeParam data s.shadow p) s)
  have ht : t.rst = false := hrst
  refine ⟨?_, step_presentFirst_read e ht trivial (readAnswers_act t p), statusImage t, ?_, statusImage_pending t⟩
  · obtain ⟨d, hstep, hd⟩ := step_presentFirst_read (r := .shadow p) e ht trivial (readAnswers_shadow t p)
    refine ⟨d, hstep, hd.trans ?_⟩
    cases p with
    | ATTACK | DECAY | RELEASE => exact storedTicks_toNat data
    | SUSTAIN => exact storedSustain_toNat data
    | MIX_GAIN => exact storedGain_toNat data
    | WAVEFORM => exact storedWaveform_toNat data
    | _ => rfl
  · exact step_presentFirst_of_op ht (decode_read (r := .STATUS) e trivial rfl)

end Sys2Proof.Machine
end

section
/-! SUPPORT. The encoder and the decoder agree (30_encoding.md R90 to R98): every operation but TICK is the read or the write of
one register, encoded at that register's address, and the decoder's answer to a transaction on a register is `transact`. -/

namespace Sys2Proof

/-! ### The operation of a transaction on a register (R98) -/

/-- The operation of a transaction with W = `w` and DATA = `d` on a register, none where the register does not take it. -/
def busOp (w : BitVec 1) (r : Reg) (d : Word) : Option Instr := if w = 1#1 then writeOp r d else readOp r

theorem busOp_write (r : Reg) (d : Word) : busOp 1#1 r d = writeOp r d := rfl

theorem busOp_read (r : Reg) (d : Word) : busOp 0#1 r d = readOp r := rfl

theorem bit_cases (w : BitVec 1) : w = 0#1 ∨ w = 1#1 := by
  revert w; decide

/-- The DATA the encoder writes: a read carries 0 (R93, log entry 14). -/
def encodedData (w : BitVec 1) (d : Word) : Word := if w = 1#1 then d else 0#32

theorem busOp_encodedData (w : BitVec 1) (r : Reg) (d : Word) : busOp w r (encodedData w d) = busOp w r d := by
  rcases bit_cases w with rfl | rfl <;> rfl

/-- The voice whose window the register stands in (R92). -/
def Reg.voiceIndex : Reg → Option (BitVec 4)
  | .voice v _ => some v
  | _ => none

/-- The operation is encoded as the transaction (W, ADDR of the register, DATA), and is of the register's voice. -/
def EncodedAt (w : BitVec 1) (r : Reg) (d : Word) (i : Instr) : Prop :=
  encode i = txn w r.addr d ∧ i.voiceIndex = r.voiceIndex

theorem encodedAt_of_readOp {r : Reg} {i : Instr} (h : readOp r = some i) : EncodedAt 0#1 r 0#32 i := by
  cases r with
  | shadow p => cases p <;> cases h <;> exact ⟨rfl, rfl⟩
  | act p => cases p <;> cases h <;> exact ⟨rfl, rfl⟩
  | voice v q => cases q <;> cases h <;> exact ⟨rfl, rfl⟩
  | _ => cases h <;> exact ⟨rfl, rfl⟩

theorem encodedAt_of_commandOp {d : Word} {i : Instr} (h : commandOp d = some i) : EncodedAt 1#1 .COMMAND d i := by
  unfold commandOp at h
  split_ifs at h with h1 h2 h3 <;> cases h <;> subst d <;> exact ⟨rfl, rfl⟩

theorem encodedAt_of_voiceCommandOp {v : BitVec 4} {d : Word} {i : Instr} (h : voiceCommandOp v d = some i) :
    EncodedAt 1#1 (.voice v .V_VCMD) d i := by
  unfold voiceCommandOp at h
  split_ifs at h with h1 h2 <;> cases h <;> subst d <;> exact ⟨rfl, rfl⟩

theorem encodedAt_of_writeOp {r : Reg} {d : Word} {i : Instr} (h : writeOp r d = some i) : EncodedAt 1#1 r d i := by
  cases r with
  | COMMAND => exact encodedAt_of_commandOp h
  | shadow p => cases p <;> cases h <;> exact ⟨rfl, rfl⟩
  | voice v q =>
    cases q with
    | V_VCMD => exact encodedAt_of_voiceCommandOp h
    | _ => cases h <;> exact ⟨rfl, rfl⟩
  | _ => cases h <;> exact ⟨rfl, rfl⟩

theorem encodedAt_of_busOp {w : BitVec 1} {r : Reg} {d : Word} {i : Instr} (h : busOp w r d = some i) :
    EncodedAt w r (encodedData w d) i := by
  rcases bit_cases w with rfl | rfl
  · exact encodedAt_of_readOp h
  · exact encodedAt_of_writeOp h

/-- An operation is well formed for the blocks its register is in. -/
theorem EncodedAt.wf_iff {w : BitVec 1} {r : Reg} {d : Word} {i : Instr} (h : EncodedAt w r d i) (n : Nat) :
    i.wf n = true ↔ r.inBlock n := by
  obtain ⟨-, hv⟩ := h
  rw [Instr.wf, hv]
  cases r <;> simp [Reg.voiceIndex, Reg.inBlock]

/-- Every operation but TICK is the read or the write of the register its word addresses. -/
theorem exists_busOp {i : Instr} (htick : i ≠ .tick) :
    ∃ w a d r, encode i = txn w a d ∧ regOf a = some r ∧ busOp w r d = some i := by
  cases i
  case tick => exact absurd rfl htick
  case wrVPinc v d => exact ⟨_, _, _, _, rfl, regOf_addr (.voice v .V_PINC), rfl⟩
  case rdVPinc v => exact ⟨_, _, _, _, rfl, regOf_addr (.voice v .V_PINC), rfl⟩
  case wrVPhase v d => exact ⟨_, _, _, _, rfl, regOf_addr (.voice v .V_PHASE), rfl⟩
  case rdVPhase v => exact ⟨_, _, _, _, rfl, regOf_addr (.voice v .V_PHASE), rfl⟩
  case gateOn v => exact ⟨_, _, _, _, rfl, regOf_addr (.voice v .V_VCMD), rfl⟩
  case gateOff v => exact ⟨_, _, _, _, rfl, regOf_addr (.voice v .V_VCMD), rfl⟩
  case rdVEnv v => exact ⟨_, _, _, _, rfl, regOf_addr (.voice v .V_ENV), rfl⟩
  case rdVElapsed v => exact ⟨_, _, _, _, rfl, regOf_addr (.voice v .V_ELAPSED), rfl⟩
  case rdVStart v => exact ⟨_, _, _, _, rfl, regOf_addr (.voice v .V_START), rfl⟩
  case rdVWave v => exact ⟨_, _, _, _, rfl, regOf_addr (.voice v .V_WAVE), rfl⟩
  all_goals exact ⟨_, _, _, _, rfl, rfl, rfl⟩

/-! ### What the decoder answers at an address (R97) -/

/-- The decoder's answer to a transaction on a register of the block. -/
def transact (w : BitVec 1) (r : Reg) (d : Word) : Decoded :=
  match busOp w r d with
  | some i => .op i
  | none => .error (if w = 0#1 then .woRead else if r.access = .ro then .roWrite else .badCommand)

theorem transact_eq_op_iff {w : BitVec 1} {r : Reg} {d : Word} {i : Instr} :
    transact w r d = .op i ↔ busOp w r d = some i := by
  unfold transact
  cases busOp w r d <;> simp

theorem decode_addr {n : Nat} {r : Reg} (w : BitVec 1) (d : Word) (h : r.inBlock n) :
    decode n (txn w r.addr d) = transact w r d := by
  have hvoice := fun hno => (noVoice_addr_iff n r).1 hno h
  rw [decode_txn, decodeFields, if_neg (by simp [addrAlign_addr]), if_neg hvoice, regOf_addr]
  rcases bit_cases w with rfl | rfl
  · cases hr : readOp r <;> simp [transact, busOp_read, hr]
  · by_cases hro : r.access = .ro
    · simp [transact, busOp_write, hro, (writeOp_eq_none_iff r d).2 (.inl hro)]
    · cases hw : writeOp r d <;> simp [transact, busOp_write, hro, hw]

/-- What an address is to the decoder, in the order of its tests: misaligned, in the window of a missing voice, without a
register, or the address of a register of the block. -/
inductive AddrClass (n : Nat) (a : Addr) : Prop
  | misaligned (h : addrAlign a ≠ 0#2)
  | noVoice (halign : addrAlign a = 0#2) (hv : addrInVoiceHalf a = true ∧ n ≤ (addrVoice a).toNat)
  | unmapped (halign : addrAlign a = 0#2) (hv : ¬ (addrInVoiceHalf a = true ∧ n ≤ (addrVoice a).toNat))
      (h : regOf a = none)
  | register (r : Reg) (h : r.inBlock n) (ha : r.addr = a)

theorem addrClass (n : Nat) (a : Addr) : AddrClass n a := by
  by_cases halign : addrAlign a = 0#2
  · by_cases hv : addrInVoiceHalf a = true ∧ n ≤ (addrVoice a).toNat
    · exact .noVoice halign hv
    · cases h : regOf a with
      | none => exact .unmapped halign hv h
      | some r =>
        obtain rfl := addr_of_regOf ((addrAlign_eq_zero_iff a).1 halign) h
        exact .register r (not_not.1 fun hr => hv ((noVoice_addr_iff n r).2 hr)) rfl
  · exact .misaligned halign

theorem decode_misaligned {n : Nat} {a : Addr} (w : BitVec 1) (d : Word) (h : addrAlign a ≠ 0#2) :
    decode n (txn w a d) = .error .misaligned := by
  simp [decode_txn, decodeFields, h]

theorem decode_noVoice {n : Nat} {a : Addr} (w : BitVec 1) (d : Word) (halign : addrAlign a = 0#2)
    (hv : addrInVoiceHalf a = true ∧ n ≤ (addrVoice a).toNat) : decode n (txn w a d) = .error .noVoice := by
  rw [decode_txn, decodeFields, if_neg (by simp [halign]), if_pos hv]

theorem decode_unmapped {n : Nat} {a : Addr} (w : BitVec 1) (d : Word) (halign : addrAlign a = 0#2)
    (hv : ¬ (addrInVoiceHalf a = true ∧ n ≤ (addrVoice a).toNat)) (h : regOf a = none) :
    decode n (txn w a d) = .error .unmapped := by
  rw [decode_txn, decodeFields, if_neg (by simp [halign]), if_neg hv, h]

/-- The decoder reads an operation exactly when it is the operation of a transaction on a register of the block. -/
theorem decode_eq_op_iff {n : Nat} {w : BitVec 1} {a : Addr} {d : Word} {i : Instr} :
    decode n (txn w a d) = .op i ↔ ∃ r : Reg, r.inBlock n ∧ r.addr = a ∧ busOp w r d = some i := by
  constructor
  · intro h
    cases addrClass n a with
    | misaligned ha => simp [decode_misaligned w d ha] at h
    | noVoice halign hv => simp [decode_noVoice w d halign hv] at h
    | unmapped halign hv hr => simp [decode_unmapped w d halign hv hr] at h
    | register r hr ha =>
      rw [← ha, decode_addr w d hr] at h
      exact ⟨r, hr, ha, transact_eq_op_iff.1 h⟩
  · rintro ⟨r, hr, rfl, hi⟩
    rw [decode_addr w d hr, transact_eq_op_iff.2 hi]

/-! ### The round trips -/

/-- Settles O3: the word of an operation is a transaction on its register, which is one of the block's because the operation is
well formed. -/
theorem decodeInvertsEncode : Obligations.DecodeInvertsEncode := by
  unfold Obligations.DecodeInvertsEncode
  intro n i hwf
  by_cases htick : i = .tick
  · subst htick; rfl
  · obtain ⟨w, a, d, r, -, -, hi⟩ := exists_busOp htick
    have hat := encodedAt_of_busOp hi
    obtain ⟨hencode, -⟩ := id hat
    rw [hencode]
    exact decode_eq_op_iff.2 ⟨r, (hat.wf_iff n).1 hwf, rfl, (busOp_encodedData w r d).trans hi⟩

theorem txn_fields (w : TxnWord) : PortWord.txn w = txn (txnW w) (txnAddr w) (txnData w) := by
  rw [txn, txnWord_fields]

/-- Settles O4: an operation the decoder reads is that of a register of the block, and the encoder writes it at the register's
address, which is the word's own. -/
theorem encodeInvertsDecode : Obligations.EncodeInvertsDecode := by
  unfold Obligations.EncodeInvertsDecode
  constructor
  · intro n w i h
    rw [txn_fields] at h
    obtain ⟨r, hr, ha, hi⟩ := decode_eq_op_iff.1 h
    have hat := encodedAt_of_busOp hi
    refine ⟨(hat.wf_iff n).2 hr, ?_⟩
    obtain ⟨hencode, -⟩ := hat
    rw [hencode, ha]
    rfl
  · intro n b i h
    simp only [decode] at h
    split at h
    · subst b; cases h; rfl
    · cases h

end Sys2Proof
end

section
/-! SUPPORT. The decoder's errors by ADDR as a number (30_encoding.md section 2, R97, R99). -/

namespace Sys2Proof

/-! ### The ranges of the address space (R46, R92) -/

/-- An aligned address of the global half. -/
abbrev GlobalAt (a : Nat) : Prop := a % 4 = 0 ∧ a < 0x200

/-- An aligned address in the window of one of `n` voices. -/
abbrev WindowAt (n a : Nat) : Prop := a % 4 = 0 ∧ 0x200 ≤ a ∧ (a - 0x200) / 0x20 < n

/-- An aligned address in the window of a voice there is not. -/
abbrev NoVoiceAt (n a : Nat) : Prop := a % 4 = 0 ∧ 0x200 ≤ a ∧ n ≤ (a - 0x200) / 0x20

/-- The holes of the global half. -/
abbrev GlobalHole (a : Nat) : Prop :=
  0x034 ≤ a ∧ a ≤ 0x03C ∨ 0x06C ≤ a ∧ a ≤ 0x07C ∨ 0x090 ≤ a ∧ a ≤ 0x0BC ∨ 0x0EC ≤ a ∧ a ≤ 0x1FC

/-- An address that names no register. -/
abbrev UnmappedAt (n a : Nat) : Prop :=
  (GlobalAt a ∧ GlobalHole a) ∨ (WindowAt n a ∧ (a - 0x200) % 0x20 = 0x1C)

/-- The read-only ranges of the global half. -/
abbrev GlobalReadOnly (a : Nat) : Prop :=
  a ≤ 0x004 ∨ a = 0x018 ∨ 0x020 ≤ a ∧ a ≤ 0x030 ∨ 0x080 ≤ a ∧ a ≤ 0x08C ∨ 0x0C0 ≤ a ∧ a ≤ 0x0E8

/-- An address of a read-only register. -/
abbrev ReadOnlyAt (n a : Nat) : Prop :=
  (GlobalAt a ∧ GlobalReadOnly a) ∨
  (WindowAt n a ∧ 0x0C ≤ (a - 0x200) % 0x20 ∧ (a - 0x200) % 0x20 ≤ 0x18)

/-- The address of COMMAND. -/
abbrev CommandAt (a : Nat) : Prop := GlobalAt a ∧ a = 0x014

/-- An address of a V_VCMD. -/
abbrev VoiceCommandAt (n a : Nat) : Prop := WindowAt n a ∧ (a - 0x200) % 0x20 = 0x08

/-! ### The fields of an address as numbers (R92) -/

theorem addrInVoiceHalf_iff (a : Addr) : addrInVoiceHalf a = true ↔ 0x200 ≤ a.toNat := by
  have ha := a.isLt
  rw [addrInVoiceHalf, BitVec.getLsbD, Nat.testBit_eq_decide_div_mod_eq, decide_eq_true_eq]
  omega

theorem addrVoice_toNat {a : Addr} (h : 0x200 ≤ a.toNat) : (addrVoice a).toNat = (a.toNat - 0x200) / 0x20 := by
  have ha := a.isLt
  rw [addrVoice, BitVec.extractLsb'_toNat, Nat.shiftRight_eq_div_pow]
  omega

theorem addrVoiceReg_toNat {a : Addr} (h : 0x200 ≤ a.toNat) :
    (addrVoiceReg a).toNat = (a.toNat - 0x200) % 0x20 / 4 := by
  rw [addrVoiceReg, BitVec.extractLsb'_toNat, Nat.shiftRight_eq_div_pow]
  omega

theorem voiceAddr_toNat (v : BitVec 4) (q : VoiceReg) :
    (voiceAddr v q.offset).toNat = 0x200 + 0x20 * v.toNat + q.offset.toNat := by
  revert v
  cases q <;> decide

/-- Of a voice window only the last word is reserved (R92). -/
theorem voiceRegOf_eq_none {g : BitVec 3} (h : voiceRegOf g = none) : g.toNat = 7 := by
  revert g; decide

/-- The global half's aligned addresses outside the holes all name a register. -/
theorem globalRegOf_eq_none {a : Addr} (halign : a.toNat % 4 = 0) (hhalf : a.toNat < 0x200)
    (h : globalRegOf a = none) : GlobalHole a.toNat := by
  have hword : ∀ k : Fin 128, globalRegOf (BitVec.ofNat 10 (4 * k.val)) = none → GlobalHole (4 * k.val) := by decide
  have ha : 4 * (a.toNat / 4) = a.toNat := by omega
  have hk := hword ⟨a.toNat / 4, by omega⟩
  simp only [ha, BitVec.ofNat_toNat, BitVec.setWidth_eq] at hk
  exact hk h

theorem unmappedAt_of_regOf {n : Nat} {a : Addr} (halign : a.toNat % 4 = 0)
    (hv : ¬ (addrInVoiceHalf a = true ∧ n ≤ (addrVoice a).toNat)) (h : regOf a = none) : UnmappedAt n a.toNat := by
  rw [addrInVoiceHalf_iff] at hv
  unfold regOf at h
  split at h
  case isTrue hhalf =>
    rw [addrInVoiceHalf_iff] at hhalf
    have hg := voiceRegOf_eq_none (Option.map_eq_none_iff.1 h)
    rw [addrVoiceReg_toNat hhalf] at hg
    rw [addrVoice_toNat hhalf] at hv
    exact .inr ⟨⟨halign, hhalf, by omega⟩, by omega⟩
  case isFalse hhalf =>
    rw [addrInVoiceHalf_iff] at hhalf
    exact .inl ⟨⟨halign, by omega⟩, globalRegOf_eq_none halign (by omega) h⟩

/-! ### The address of a register as a number (R46) -/

theorem addr_toNat_mod_four (r : Reg) : r.addr.toNat % 4 = 0 := (addrAlign_eq_zero_iff _).1 (addrAlign_addr r)

/-- A register of a window stands at its offset in the window of its voice. -/
theorem voiceAddr_window {n : Nat} {v : BitVec 4} (q : VoiceReg) (hv : v.toNat < n) :
    WindowAt n (Reg.voice v q).addr.toNat ∧ ((Reg.voice v q).addr.toNat - 0x200) % 0x20 = q.offset.toNat := by
  have hoff : q.offset.toNat % 4 = 0 ∧ q.offset.toNat < 0x20 := by cases q <;> decide
  simp only [Reg.addr, voiceAddr_toNat]
  omega

/-- A register outside the windows stands in the global half, outside the holes, and its access code is that of its range. -/
theorem addr_global {r : Reg} (h : r.voiceIndex = none) :
    r.addr.toNat < 0x200 ∧ ¬ GlobalHole r.addr.toNat ∧ (GlobalReadOnly r.addr.toNat ↔ r.access = .ro) := by
  cases r with
  | voice v q => cases h
  | shadow p => cases p <;> decide
  | act p => cases p <;> decide
  | _ => decide

theorem window_or_global (r : Reg) : (∃ v q, r = .voice v q) ∨ r.voiceIndex = none := by
  cases r with
  | voice v q => exact .inl ⟨v, q, rfl⟩
  | _ => exact .inr rfl

theorem not_noVoiceAt_addr {n : Nat} {r : Reg} (h : r.inBlock n) : ¬ NoVoiceAt n r.addr.toNat := by
  rintro ⟨-, hhalf, hv⟩
  rw [← addrVoice_toNat hhalf] at hv
  exact (noVoice_addr_iff n r).1 ⟨(addrInVoiceHalf_iff _).2 hhalf, hv⟩ h

theorem not_unmappedAt_addr {n : Nat} {r : Reg} (h : r.inBlock n) : ¬ UnmappedAt n r.addr.toNat := by
  rcases window_or_global r with ⟨v, q, rfl⟩ | hglobal
  · obtain ⟨hwin, hoff⟩ := voiceAddr_window q h
    have hlast : q.offset.toNat ≠ 0x1C := by cases q <;> decide
    omega
  · obtain ⟨hhalf, hhole, -⟩ := addr_global hglobal
    omega

theorem readOnlyAt_addr_iff {n : Nat} {r : Reg} (h : r.inBlock n) :
    ReadOnlyAt n r.addr.toNat ↔ r.access = .ro := by
  rcases window_or_global r with ⟨v, q, rfl⟩ | hglobal
  · obtain ⟨hwin, hoff⟩ := voiceAddr_window q h
    have hro : (0x0C ≤ q.offset.toNat ∧ q.offset.toNat ≤ 0x18) ↔ (Reg.voice v q).access = .ro := by
      cases q <;> simp [VoiceReg.offset, Reg.access]
    rw [← hro]
    omega
  · obtain ⟨hhalf, -, hro⟩ := addr_global hglobal
    have halign := addr_toNat_mod_four r
    rw [← hro]
    omega

theorem commandAt_addr_iff (r : Reg) : CommandAt r.addr.toNat ↔ r = .COMMAND := by
  constructor
  · rintro ⟨-, ha⟩
    have hsame : r.addr = Reg.COMMAND.addr := BitVec.eq_of_toNat_eq ha
    have hreg : some r = some .COMMAND := by rw [← regOf_addr r, hsame, regOf_addr]
    exact Option.some.inj hreg
  · rintro rfl
    decide

theorem voiceCommandAt_addr_iff {n : Nat} {r : Reg} (h : r.inBlock n) :
    VoiceCommandAt n r.addr.toNat ↔ ∃ v, r = .voice v .V_VCMD := by
  rcases window_or_global r with ⟨v, q, rfl⟩ | hglobal
  · obtain ⟨hwin, hoff⟩ := voiceAddr_window q h
    have hcmd : q.offset.toNat = 0x08 ↔ ∃ u, Reg.voice v q = .voice u .V_VCMD := by
      cases q <;> simp [VoiceReg.offset]
    rw [← hcmd]
    omega
  · obtain ⟨hhalf, -, -⟩ := addr_global hglobal
    constructor
    · omega
    · rintro ⟨u, rfl⟩
      cases hglobal

/-! ### The errors of a transaction on a register -/

theorem access_eq_wo_iff (r : Reg) : r.access = .wo ↔ r = .COMMAND ∨ ∃ v, r = .voice v .V_VCMD := by
  cases r with
  | voice v q => cases q <;> simp [Reg.access]
  | _ => simp [Reg.access]

theorem transact_eq_error_iff {w : BitVec 1} {r : Reg} {d : Word} {c : BusError} :
    transact w r d = .error c ↔
      busOp w r d = none ∧ (if w = 0#1 then .woRead else if r.access = .ro then .roWrite else .badCommand) = c := by
  unfold transact
  cases busOp w r d <;> simp

theorem transact_eq_woRead_iff {w : BitVec 1} {r : Reg} {d : Word} :
    transact w r d = .error .woRead ↔ w = 0#1 ∧ r.access = .wo := by
  rw [transact_eq_error_iff]
  rcases bit_cases w with rfl | rfl
  · simp [busOp_read, readOp_eq_none_iff]
  · by_cases hro : r.access = .ro <;> simp [hro]

theorem transact_eq_roWrite_iff {w : BitVec 1} {r : Reg} {d : Word} :
    transact w r d = .error .roWrite ↔ w = 1#1 ∧ r.access = .ro := by
  rw [transact_eq_error_iff]
  rcases bit_cases w with rfl | rfl
  · simp
  · by_cases hro : r.access = .ro <;> simp [hro, busOp_write, writeOp_eq_none_iff]

theorem transact_eq_badCommand_iff {w : BitVec 1} {r : Reg} {d : Word} :
    transact w r d = .error .badCommand ↔ w = 1#1 ∧
      ((r = .COMMAND ∧ d ≠ 1#32 ∧ d ≠ 2#32 ∧ d ≠ 3#32) ∨ ((∃ v, r = .voice v .V_VCMD) ∧ d ≠ 1#32 ∧ d ≠ 2#32)) := by
  rw [transact_eq_error_iff]
  rcases bit_cases w with rfl | rfl
  · simp
  · simp only [busOp_write, writeOp_eq_none_iff, commandOp_eq_none_iff, voiceCommandOp_eq_none_iff]
    by_cases hro : r.access = .ro
    · have hwo : r.access ≠ .wo := by simp [hro]
      rw [Ne, access_eq_wo_iff, not_or] at hwo
      simp [hro, hwo]
    · simp [hro]

/-- A transaction on a register is none of the errors of an address without one. -/
theorem transact_ne_addr_error (w : BitVec 1) (r : Reg) (d : Word) :
    transact w r d ≠ .error .misaligned ∧ transact w r d ≠ .error .noVoice ∧ transact w r d ≠ .error .unmapped ∧
      transact w r d ≠ .noEvent := by
  unfold transact
  cases busOp w r d with
  | some i => simp
  | none => split_ifs <;> simp

theorem exists_op_of_no_error {w : BitVec 1} {r : Reg} {d : Word} (h : ∀ c, transact w r d ≠ .error c) :
    ∃ i, transact w r d = .op i := by
  cases hd : transact w r d with
  | op i => exact ⟨i, rfl⟩
  | error c => exact absurd hd (h c)
  | noEvent =>
    obtain ⟨-, -, -, hno⟩ := transact_ne_addr_error w r d
    exact absurd hd hno

/-- Settles O6: at an address of each class the decoder's answer is known, and the ranges of the statement tell the classes
apart. -/
theorem decoderErrorClasses : Obligations.DecoderErrorClasses := by
  unfold Obligations.DecoderErrorClasses
  intro n w a d
  cases addrClass n a with
  | misaligned h =>
    rw [Ne, addrAlign_eq_zero_iff] at h
    simp [decode_misaligned w d, addrAlign_eq_zero_iff, h]
  | noVoice halign hv =>
    simp only [decode_noVoice w d halign hv, Decoded.error.injEq, reduceCtorEq, false_iff, true_iff]
    rw [addrAlign_eq_zero_iff] at halign
    obtain ⟨hhalf, hv⟩ := hv
    rw [addrInVoiceHalf_iff] at hhalf
    rw [addrVoice_toNat hhalf] at hv
    exact ⟨by omega, by omega, by omega, by omega, by omega, by omega, fun h => absurd rfl (h _)⟩
  | unmapped halign hv h =>
    simp only [decode_unmapped w d halign hv h, Decoded.error.injEq, reduceCtorEq, false_iff, true_iff]
    rw [addrAlign_eq_zero_iff] at halign
    have hun := unmappedAt_of_regOf halign hv h
    exact ⟨by omega, by omega, hun, by omega, by omega, by omega, fun h => absurd rfl (h _)⟩
  | register r hr ha =>
    subst ha
    obtain ⟨hmis, hnov, hunm, -⟩ := transact_ne_addr_error w r d
    have hcmd := commandAt_addr_iff r
    have hvcmd := voiceCommandAt_addr_iff hr
    rw [decode_addr w d hr]
    refine ⟨iff_of_false hmis (not_not.2 (addr_toNat_mod_four r)), iff_of_false hnov (not_noVoiceAt_addr hr),
      iff_of_false hunm (not_unmappedAt_addr hr), ?_, ?_, ?_, exists_op_of_no_error⟩
    · rw [transact_eq_roWrite_iff, ← readOnlyAt_addr_iff hr]
    · rw [transact_eq_woRead_iff, access_eq_wo_iff, ← hcmd, ← hvcmd]
    · rw [transact_eq_badCommand_iff, ← hcmd, ← hvcmd]
      simp only [CommandAt, VoiceCommandAt, and_assoc]

end Sys2Proof
end

section
/-! SUPPORT. Transactions as the step runs them (40_bus_global.md R120): encoded operations, reads whatever their DATA, the one
response of each, and the pseudo-instructions of the program form (30_encoding.md R103). -/

namespace Sys2Proof.Machine

/-! ### Fixed words (30_encoding.md section 3) -/

/-- Settles O2: the decoder evaluates on each closed word. -/
theorem writtenOutWordsDecode : Obligations.WrittenOutWordsDecode := by
  unfold Obligations.WrittenOutWordsDecode
  decide

/-! ### A word presented first -/

theorem step_presentFirst (p : PortWord) (s : State) :
    step (presentFirst p s) = performPort p { s with rst := false } := rfl

/-- Settles O5: the encoded word decodes to the operation, and the step runs what the word decodes to. -/
theorem encodedOperationRunsNext : Obligations.EncodedOperationRunsNext := by
  unfold Obligations.EncodedOperationRunsNext
  intro s i hwf
  rw [step_presentFirst]
  exact performPort_of_op rfl (decodeInvertsEncode s.n i hwf)

theorem decode_read_data (n : Nat) (a : Addr) (d e : Word) : decode n (txn 0#1 a d) = decode n (txn 0#1 a e) := by
  rw [decode_txn, decode_txn]
  rfl

/-- What a transaction does depends on its word through W, ADDR and what the word decodes to. -/
theorem performPort_txn_congr {s : State} {w : BitVec 1} {a : Addr} {d e : Word}
    (h : decode s.n (txn w a d) = decode s.n (txn w a e)) :
    performPort (txn w a d) s = performPort (txn w a e) s := by
  rw [performPort, performPort, h]
  simp only [txn, performDecoded, txnW_txnWord, txnAddr_txnWord]

/-- Settles O7: the decoder looks at DATA for a write only. -/
theorem readIgnoresData : Obligations.ReadIgnoresData := by
  unfold Obligations.ReadIgnoresData
  intro s a d e
  refine ⟨decode_read_data s.n a d e, ?_⟩
  rw [step_presentFirst, step_presentFirst]
  exact performPort_txn_congr (decode_read_data s.n a d e)

/-! ### The response of a transaction (R90, R120, R302) -/

/-- One response more, no sample, and the schedule as it was. -/
def Responds (s t : State) (r : Response) : Prop :=
  t.responses = s.responses ++ [r] ∧ t.inputs = s.inputs ∧ t.samples = s.samples

/-- A well-formed operation but TICK gives one OK response, with RDATA 0 unless it is a read, and only SOFT_RESET writes
SAMPLE_COUNT. -/
theorem Effect.responds {s t : State} {i : Instr} (h : Effect s i t) (hwf : i.wf s.n = true) (htick : i ≠ .tick) :
    ∃ d, Responds s t { resp := .ok, rdata := d } ∧ ((∃ a, encode i = txn 0#1 a 0#32) ∨ d = 0#32) ∧
      (i ≠ .softReset → t.SAMPLE_COUNT = s.SAMPLE_COUNT) := by
  cases h with
  | read i d hi => exact ⟨d, ⟨rfl, rfl, rfl⟩, .inl hi, fun _ => rfl⟩
  | noVoice i v w a hi hv => exact absurd (voiceIndex_lt_of_wf hwf hi) (by omega)
  | softReset => exact ⟨0#32, ⟨rfl, rfl, rfl⟩, .inr rfl, fun hn => absurd rfl hn⟩
  | tick => exact absurd rfl htick
  | _ => exact ⟨0#32, ⟨rfl, rfl, rfl⟩, .inr rfl, fun _ => rfl⟩

/-- A transaction word decodes to an operation or to an error. -/
theorem decode_txn_cases (n : Nat) (w : TxnWord) :
    (∃ i, decode n (.txn w) = .op i) ∨ ∃ c, decode n (.txn w) = .error c := by
  rw [txn_fields]
  by_cases h : ∃ c, decode n (txn (txnW w) (txnAddr w) (txnData w)) = .error c
  · exact .inr h
  · obtain ⟨-, -, -, -, -, -, hop⟩ := decoderErrorClasses n (txnW w) (txnAddr w) (txnData w)
    exact .inl (hop (not_exists.1 h))

/-- An operation a transaction word decodes to is encoded with the word's W, so it is no TICK. -/
theorem encode_of_decode_txn {n : Nat} {w : TxnWord} {i : Instr} (h : decode n (.txn w) = .op i) :
    i.wf n = true ∧ ∃ a d, encode i = txn (txnW w) a d := by
  obtain ⟨hback, -⟩ := encodeInvertsDecode
  obtain ⟨hwf, hencode⟩ := hback n w i h
  exact ⟨hwf, _, _, hencode⟩

theorem txn_W_inj {w x : BitVec 1} {a b : Addr} {d e : Word} (h : txn w a d = txn x b e) : w = x := by
  have hword : txnWord w a d = txnWord x b e := PortWord.txn.inj h
  rw [← txnW_txnWord w a d, hword, txnW_txnWord]

/-- Settles O12: an error answers ERR with 0; an operation answers OK, with 0 unless its word has W = 0. -/
theorem oneResponsePerTransaction : Obligations.OneResponsePerTransaction := by
  unfold Obligations.OneResponsePerTransaction
  intro s w rest hrst hin
  rcases decode_txn_cases s.n w with ⟨i, hd⟩ | ⟨c, hd⟩
  · obtain ⟨hwf, a, d, hencode⟩ := encode_of_decode_txn hd
    have htick : i ≠ .tick := by
      rintro rfl
      cases hencode
    obtain ⟨t, ht⟩ := exec_answers_next i { s with inputs := rest }
    obtain ⟨rdata, ⟨hresp, hinputs, hsamples⟩, hread, hcount⟩ := (effect_of_exec ht).responds hwf htick
    refine ⟨t, _, (step_of_op hrst hin hd).trans ht, hresp, hinputs, hsamples, by simp [hd], fun j hj => ?_⟩
    obtain rfl : i = j := by simpa [hd] using hj
    refine ⟨rfl, fun hw => ?_, hcount⟩
    rcases hread with ⟨b, hzero⟩ | hdata
    · have hw0 : txnW w = 0#1 := txn_W_inj (hencode.symm.trans hzero)
      simp [hw0] at hw
    · exact hdata
  · exact ⟨_, _, step_of_error hrst hin hd, rfl, rfl, rfl, fun _ _ => rfl, by simp [hd]⟩

/-! ### The program form (R102, R103) -/

/-- What an event's word is to a block of `n` voices; the other events carry none. -/
def decodeEvent (n : Nat) : Event → Decoded
  | .port w => decode n w
  | .rst _ => .noEvent
  | .tickOverrun => .noEvent

/-- What the words of a program decode to, in the order of the schedule. -/
def decodeProgram (n : Nat) (p : List Statement) : List Decoded := (programEvents p).map (decodeEvent n)

theorem decodeProgram_append (n : Nat) (p q : List Statement) :
    decodeProgram n (p ++ q) = decodeProgram n p ++ decodeProgram n q := by
  simp [decodeProgram, programEvents]

/-- A write statement decodes to the write operation of its register. -/
theorem decodeProgram_wr {n : Nat} {r : Reg} {value : Int} {i : Instr} (hr : r.inBlock n)
    (hi : writeOp r (programWord value) = some i) (p : List Statement) :
    decodeProgram n (.wr r value :: p) = .op i :: decodeProgram n p :=
  congrArg (· :: decodeProgram n p) (decode_write hr hi)

theorem decodeProgram_single_wr {n : Nat} {r : Reg} {value : Int} {i : Instr} (hr : r.inBlock n)
    (hi : writeOp r (programWord value) = some i) : decodeProgram n [.wr r value] = [.op i] :=
  decodeProgram_wr hr hi []

theorem programWord_two_pow (v : BitVec 4) : programWord (2 ^ v.toNat) = 1#32 <<< v.toNat := by
  revert v
  decide

/-- The shadow writes of a list of parameters and values, in its order. -/
theorem decodeProgram_shadowWrites (n : Nat) (values : List (Param × Int)) :
    decodeProgram n (values.map fun pv => .wr (.shadow pv.1) pv.2) =
      values.map fun pv => .op (shadowWrite (programWord pv.2) pv.1) := by
  induction values with
  | nil => rfl
  | cons pv values ih =>
    rw [List.map_cons, List.map_cons, decodeProgram_wr (r := .shadow pv.1) trivial (writeOp_shadow pv.1 _), ih]

theorem decodeProgram_publish (n : Nat) (values : List (Param × Int)) :
    decodeProgram n (expandPseudo (.publish values)) =
      (values.map fun pv => .op (shadowWrite (programWord pv.2) pv.1)) ++ [.op .commit] := by
  rw [expandPseudo, decodeProgram_append, decodeProgram_shadowWrites,
    decodeProgram_single_wr (r := .COMMAND) trivial rfl]

/-- Settles O58: each transaction of an expansion is a write of a register of the block. -/
theorem pseudoInstructionsExpandToOperations : Obligations.PseudoInstructionsExpandToOperations := by
  unfold Obligations.PseudoInstructionsExpandToOperations
  intro n v pinc hv ops
  have hops : ∀ p, ops p = decodeProgram n (expandPseudo p) := fun p =>
    List.map_congr_left fun e _ => by cases e <;> rfl
  simp only [hops]
  refine ⟨decodeProgram_single_wr (r := .COMMAND) trivial rfl, decodeProgram_single_wr (r := .COMMAND) trivial rfl,
    decodeProgram_single_wr (r := .COMMAND) trivial rfl, decodeProgram_single_wr (r := .voice v .V_VCMD) hv rfl,
    decodeProgram_single_wr (r := .voice v .V_VCMD) hv rfl, ?_, decodeProgram_single_wr (r := .STATUS) trivial rfl,
    decodeProgram_single_wr (r := .STATUS) trivial rfl, ?_, fun values => ?_⟩
  · exact (decodeProgram_wr (r := .voice v .V_PINC) hv rfl _).trans
      (congrArg _ (decodeProgram_single_wr (r := .voice v .V_VCMD) hv rfl))
  · rw [← programWord_two_pow]
    exact decodeProgram_single_wr (r := .IDLE_EVENTS) trivial rfl
  · rw [decodeProgram_publish]
    congr 1
    refine List.map_congr_left fun pv _ => ?_
    obtain ⟨p, value⟩ := pv
    cases p <;> rfl

end Sys2Proof.Machine
end

section
/-! SUPPORT. The global control, status and command operations (40_bus_global.md R120 to R145) against the register map's words
(10_state.md R46): what a read answers and what a write stores, in the terms of the statements. -/

namespace Sys2Proof.Machine

/-! ### A completed transaction (R120) -/

/-- A read that computes the word `d` answers any word equal to it, and nothing else changes. -/
theorem respondOk_eq_answered {d e : Word} (s : State) (h : d = e) : respondOk d s = .next (answered e s) :=
  h ▸ rfl

/-- A write that leaves the state `t` answers 0 on any state equal to it. -/
theorem writeDone_eq_answered {t u : State} (h : t = u) : writeDone t = .next (answered 0#32 u) :=
  h ▸ rfl

/-! ### The bits of DATA as numbers -/

theorem getLsbD_eq_decide_div (d : Word) (i : Nat) : d.getLsbD i = decide (d.toNat / 2 ^ i % 2 = 1) :=
  Nat.testBit_eq_decide_div_mod_eq

theorem getLsbD_eq_false_iff_div (d : Word) (i : Nat) : d.getLsbD i = false ↔ d.toNat / 2 ^ i % 2 = 0 := by
  rw [getLsbD_eq_decide_div, decide_eq_false_iff_not]
  omega

theorem getLsbD_zero_eq_decide_mod (d : Word) : d.getLsbD 0 = decide (d.toNat % 2 = 1) := by
  simpa using getLsbD_eq_decide_div d 0

/-! ### WR_IDLE_EVENTS (R136) -/

theorem getLsbD_voiceBits_iff {n v : Nat} (hv : v < 16) : (voiceBits n).getLsbD v = true ↔ v < n := by
  refine ⟨getLsbD_voiceBits, fun h => ?_⟩
  rw [voiceBits, getLsbD_bitMask _ _ hv, List.getD_eq_getElem _ _ (by simpa using h), List.getElem_replicate]

/-- Each bit of IDLE_EVENTS is under the W1C bit of DATA in its place, masked to the voices there are. -/
theorem getLsbD_clearIdleEvents (d : Word) (s : State) {v : Nat} (hv : v < 16) :
    (clearIdleEvents d s).IDLE_EVENTS.getLsbD v =
      w1c ((voiceBits s.n).getLsbD v && d.getLsbD v) (s.IDLE_EVENTS.getLsbD v) := by
  simp [clearIdleEvents, w1c, hv, Bool.and_comm]

theorem getLsbD_clearIdleEvents_iff (d : Word) (s : State) {v : Nat} (hv : v < 16) :
    (clearIdleEvents d s).IDLE_EVENTS.getLsbD v = true ↔
      s.IDLE_EVENTS.getLsbD v = true ∧ ¬ (v < s.n ∧ d.getLsbD v = true) := by
  rw [getLsbD_clearIdleEvents d s hv, w1c_eq_true, ← Bool.not_eq_true, Bool.and_eq_true, getLsbD_voiceBits_iff hv]

/-- Settles O37: the new IDLE_EVENTS is that of `clearIdleEvents`, read bit by bit. -/
theorem idleEventsWriteClearsNamedBits : Obligations.IdleEventsWriteClearsNamedBits := by
  unfold Obligations.IdleEventsWriteClearsNamedBits
  intro s d _
  exact ⟨(clearIdleEvents d s).IDLE_EVENTS, writeDone_eq_answered rfl, fun v hv => getLsbD_clearIdleEvents_iff d s hv⟩

/-! ### The operation a word decodes to -/

/-- Settles O1: the first event of the schedule is the word, and a word presented first is taken with rst at 0. -/
theorem stepRunsDecodedOperation : Obligations.StepRunsDecodedOperation := by
  unfold Obligations.StepRunsDecodedOperation
  constructor
  · intro s p rest i hrst hin hd
    exact step_of_op hrst hin hd
  · intro s nbits w i hd
    rw [State.withFetchWord, step_presentFirst]
    exact performPort_of_op rfl hd

/-! ### SOFT_RESET (R132) -/

/-- Settles O26: `resetState` is the reset state of R330 with the model's own fields kept. -/
theorem softResetRestoresResetState : Obligations.SoftResetRestoresResetState := by
  unfold Obligations.SoftResetRestoresResetState
  intro s
  have hreset : resetState s = { State.resetOf { n := s.n, sineLut := s.sineLut } with
      rst := s.rst, inputs := s.inputs, responses := s.responses, samples := s.samples } := rfl
  exact writeDone_eq_answered hreset

/-! ### Reads of the global registers (R94) -/

theorem zext_ofNat_five (k : Nat) : zext (BitVec.ofNat 5 k) = BitVec.ofNat 32 (k % 32) := by
  apply BitVec.eq_of_toNat_eq
  rw [zext_toNat _ (by omega), BitVec.toNat_ofNat, BitVec.toNat_ofNat]
  omega

theorem zext_flagBit (b : Bool) : zext (flagBit b) = if b then 1#32 else 0#32 := by
  cases b <;> rfl

theorem zext_sixteen (v : BitVec 16) : zext v = 0#16 ++ v := by
  apply BitVec.eq_of_toNat_eq
  rw [zext_toNat _ (by omega), toNat_append_eq_add]
  simp

theorem sext16_eq_ofInt (v : Sample) : sext16 v = BitVec.ofInt 32 v.toInt := rfl

/-- Settles O27: each read answers its register's image, and the image is the word the statement names. -/
theorem globalReadsAnswerTheirRegister : Obligations.GlobalReadsAnswerTheirRegister := by
  unfold Obligations.GlobalReadsAnswerTheirRegister
  intro s
  refine ⟨?rdId, ?rdConfig, ?rdCtrl, ?rdStatus, ?rdIrqEn, ?rdErrInfo, ?rdIdleEvents, ?rdActiveMask, ?rdActiveCount,
    ?rdSampleCount, ?rdMixOut, ?rdLastOut, ?rdX1, ?rdX2, ?rdY1, ?rdY2⟩
  case rdConfig => exact respondOk_eq_answered s (zext_ofNat_five s.n)
  case rdCtrl => exact respondOk_eq_answered s (zext_flagBit s.FILTER_EN)
  case rdIdleEvents => exact respondOk_eq_answered s (zext_sixteen s.IDLE_EVENTS)
  case rdActiveMask => exact respondOk_eq_answered s (zext_sixteen (activeMask s))
  case rdActiveCount => exact respondOk_eq_answered s (zext_ofNat_five (activeCount s))
  case rdMixOut | rdLastOut | rdX1 | rdX2 | rdY1 | rdY2 => exact respondOk_eq_answered s (sext16_eq_ofInt _)
  case rdId | rdStatus | rdIrqEn | rdErrInfo | rdSampleCount => exact respondOk_eq_answered s rfl

/-! ### Writes of CTRL, IRQ_EN and STATUS, and FILTER_CLEAR -/

/-- Settles O35: a stored bit of DATA is the number of the statement, and FILTER_CLEAR stores zeros. -/
theorem controlWritesStoreTheirBits : Obligations.ControlWritesStoreTheirBits := by
  unfold Obligations.ControlWritesStoreTheirBits
  intro s d
  refine ⟨writeDone_eq_answered ?_, writeDone_eq_answered ?_, writeDone_eq_answered rfl⟩
  · rw [getLsbD_zero_eq_decide_mod]
  · rw [getLsbD_zero_eq_decide_mod, getLsbD_eq_decide_div d 1, getLsbD_eq_decide_div d 2]
    rfl

/-- A flag under the W1C bit `i` of DATA stays set exactly if it was set and that bit is 0. -/
theorem w1c_getLsbD_eq_true (d : Word) (i : Nat) (flag : Bool) :
    w1c (d.getLsbD i) flag = true ↔ flag = true ∧ d.toNat / 2 ^ i % 2 = 0 := by
  rw [w1c_eq_true, getLsbD_eq_false_iff_div]

/-- Settles O36: the three flags are those of `clearStatus`, each under its own bit of DATA. -/
theorem statusWriteClearsNamedFlags : Obligations.StatusWriteClearsNamedFlags := by
  unfold Obligations.StatusWriteClearsNamedFlags
  intro s d
  refine ⟨w1c (d.getLsbD 0) s.ERR, w1c (d.getLsbD 1) s.CLIP_MIX, w1c (d.getLsbD 2) s.CLIP_FILT,
    writeDone_eq_answered rfl, ?_, w1c_getLsbD_eq_true d 1 _, w1c_getLsbD_eq_true d 2 _⟩
  simpa using w1c_getLsbD_eq_true d 0 s.ERR

end Sys2Proof.Machine
end

section
/-! SUPPORT. COMMIT and the operations on the parameter sets (41_parameters.md R160 to R194), in the terms of the statements: what
the reads answer and the writes store as numbers, which operations are the shadow writes, and that a TICK does not see one. -/

namespace Sys2Proof.Machine

/-! ### Reads of the parameter sets (R173 to R194) -/

/-- The read operation of a register that answers the number `k` answers the word of `k`. -/
theorem exec_of_readAnswers {s : State} {r : Reg} {k : Nat} {i : Instr} (h : ReadAnswers s r k) (hi : readOp r = some i) :
    exec i s = .next (answered (BitVec.ofNat 32 k) s) := by
  obtain ⟨j, d, hj, hexec, rfl⟩ := h
  obtain rfl : i = j := Option.some.inj (hi.symm.trans hj)
  rwa [BitVec.ofNat_toNat, BitVec.setWidth_eq]

/-- Settles O28: each operation reads one shadow register, which answers its field of the shadow set. -/
theorem shadowReadsAnswerTheShadowSet : Obligations.ShadowReadsAnswerTheShadowSet := by
  unfold Obligations.ShadowReadsAnswerTheShadowSet
  intro s
  have hread (p : Param) {i : Instr} (hi : readOp (.shadow p) = some i) :
      exec i s = .next (answered (BitVec.ofNat 32 (paramValue s.shadow p)) s) :=
    exec_of_readAnswers (readAnswers_shadow s p) hi
  exact ⟨hread .B0 rfl, hread .B1 rfl, hread .B2 rfl, hread .A1 rfl, hread .A2 rfl, hread .ATTACK rfl, hread .DECAY rfl,
    hread .RELEASE rfl, hread .SUSTAIN rfl, hread .MIX_GAIN rfl, hread .WAVEFORM rfl⟩

/-- Settles O29: each operation reads one ACT_ register, which answers its field of the active set. -/
theorem activeReadsAnswerTheActiveSet : Obligations.ActiveReadsAnswerTheActiveSet := by
  unfold Obligations.ActiveReadsAnswerTheActiveSet
  intro s
  have hread (p : Param) {i : Instr} (hi : readOp (.act p) = some i) :
      exec i s = .next (answered (BitVec.ofNat 32 (paramValue s.active p)) s) :=
    exec_of_readAnswers (readAnswers_act s p) hi
  exact ⟨hread .B0 rfl, hread .B1 rfl, hread .B2 rfl, hread .A1 rfl, hread .A2 rfl, hread .ATTACK rfl, hread .DECAY rfl,
    hread .RELEASE rfl, hread .SUSTAIN rfl, hread .MIX_GAIN rfl, hread .WAVEFORM rfl⟩

/-! ### Which operations are the shadow writes (R162 to R172) -/

/-- The registers at 0x040 to 0x068 are the shadow registers (R46). -/
theorem exists_shadow_of_addr {r : Reg} (hlo : 0x040 ≤ r.addr.toNat) (hhi : r.addr.toNat ≤ 0x068) :
    ∃ p, r = .shadow p := by
  cases r with
  | shadow p => exact ⟨p, rfl⟩
  | act p => exact absurd hhi (by cases p <;> decide)
  | voice v q =>
    rw [Reg.addr, voiceAddr_toNat] at hhi
    omega
  | _ => exact absurd (And.intro hlo hhi) (by decide)

/-- The inversion of `isShadowWrite`: such an operation writes one shadow register. -/
theorem exists_shadowWrite_of_isShadowWrite {i : Instr} (h : isShadowWrite i = true) : ∃ p d, i = shadowWrite d p := by
  have htick : i ≠ .tick := by rintro rfl; cases h
  obtain ⟨w, -, d, r, -, -, hop⟩ := exists_busOp htick
  obtain ⟨hencode, -⟩ := encodedAt_of_busOp hop
  simp only [isShadowWrite, hencode, txn, txnW_txnWord, txnAddr_txnWord, decide_eq_true_eq] at h
  obtain ⟨rfl, hlo, hhi⟩ := h
  obtain ⟨p, rfl⟩ := exists_shadow_of_addr hlo hhi
  exact ⟨p, d, Option.some.inj (hop.symm.trans (writeOp_shadow p d))⟩

/-! ### What a shadow write stores (R29, R161) -/

theorem storedTicks_eq_ofNat (d : Word) : storedTicks d = BitVec.ofNat 24 d.toNat :=
  BitVec.eq_of_toNat_eq (storedTicks_toNat d)

theorem storedSustain_eq_ofNat (d : Word) : storedSustain d = BitVec.ofNat 16 (min (d.toNat % 2 ^ 16) 0x8000) := by
  apply BitVec.eq_of_toNat_eq
  rw [storedSustain_toNat, BitVec.toNat_ofNat]
  omega

theorem storedGain_eq_ofNat (d : Word) : storedGain d = BitVec.ofNat 16 d.toNat :=
  BitVec.eq_of_toNat_eq (storedGain_toNat d)

theorem storedWaveform_eq_ofNat (d : Word) : storedWaveform d = BitVec.ofNat 2 d.toNat :=
  BitVec.eq_of_toNat_eq (storedWaveform_toNat d)

/-- A shadow write answers 0 on the state with the legalised set as its shadow set and PENDING set. -/
theorem exec_shadowWrite_answered (p : Param) {d : Word} {s : State} {P : ParamSet} (h : storeParam d s.shadow p = P) :
    exec (shadowWrite d p) s = .next (answered 0#32 { s with shadow := P, PENDING := true }) := by
  rw [exec_shadowWrite, h]
  exact writeDone_eq_answered rfl

/-- No stage of a TICK reads or writes the shadow set, PENDING or the responses (R161, R230). -/
theorem tickState_withShadow (s : State) (P : ParamSet) (pending : Bool) (rs : List Response) :
    tickState { s with shadow := P, PENDING := pending, responses := rs } =
      { tickState s with shadow := P, PENDING := pending, responses := rs } := rfl

/-- Settles O32: each write is `storeParam` of its field, with the legalised DATA as the number of the statement, and a TICK after
any of them runs as without it. -/
theorem shadowWritesStoreLegalisedData : Obligations.ShadowWritesStoreLegalisedData := by
  unfold Obligations.ShadowWritesStoreLegalisedData
  constructor
  · intro s d
    refine ⟨exec_shadowWrite_answered .B0 rfl, exec_shadowWrite_answered .B1 rfl, exec_shadowWrite_answered .B2 rfl,
      exec_shadowWrite_answered .A1 rfl, exec_shadowWrite_answered .A2 rfl, exec_shadowWrite_answered .ATTACK ?attack,
      exec_shadowWrite_answered .DECAY ?decay, exec_shadowWrite_answered .RELEASE ?release,
      exec_shadowWrite_answered .SUSTAIN ?sustain, exec_shadowWrite_answered .MIX_GAIN ?mixGain,
      exec_shadowWrite_answered .WAVEFORM ?waveform⟩
    case attack | decay | release => rw [storeParam, storedTicks_eq_ofNat]
    case sustain => rw [storeParam, storedSustain_eq_ofNat]
    case mixGain => rw [storeParam, storedGain_eq_ofNat]
    case waveform => rw [storeParam, storedWaveform_eq_ofNat]
  · intro s t i hi h
    obtain ⟨p, d, rfl⟩ := exists_shadowWrite_of_isShadowWrite hi
    rw [exec_shadowWrite_answered p rfl] at h
    cases h
    exact ⟨tickState s, _, exec_tick s, exec_tick _, tickState_withShadow s _ _ _⟩

/-! ### COMMIT (R160) -/

/-- With nothing pending there is nothing to publish. -/
theorem publish_eq_self_of_published {s : State} (hs : Published s) (hp : s.PENDING = false) :
    { s with active := s.shadow, PENDING := false } = s := by
  have hactive : s.active = s.shadow := hs hp
  cases s
  cases hp
  cases hactive
  rfl

/-- Settles O34: COMMIT copies the set by definition, and the invariant says that with PENDING = 0 the copy is what stood there. -/
theorem commitPublishesTheShadowSet : Obligations.CommitPublishesTheShadowSet := by
  unfold Obligations.CommitPublishesTheShadowSet
  constructor
  · intro s
    exact writeDone_eq_answered rfl
  · rintro s ⟨-, hs⟩ hp
    exact writeDone_eq_answered (publish_eq_self_of_published hs hp)

end Sys2Proof.Machine
end

section
/-! SUPPORT. The voice operations (42_voice_ops.md R200 to R211) in the terms of the statements: each is a function of its voice or
the error NO_VOICE at its own address, a read answers the image of its register, and a write replaces its voice. -/

namespace Sys2Proof.Machine

/-! ### A voice operation without its voice (R200) -/

/-- A voice operation runs at the W and ADDR of its encoded word. -/
theorem exec_eq_withVoice {i : Instr} {v : BitVec 4} (hi : i.voiceIndex = some v) :
    ∃ w off d, encode i = txn w (voiceAddr v off) d ∧
      ∃ f : State → Voice → Answer, ∀ s, exec i s = withVoice v w off s (f s) := by
  cases i <;> cases hi
  all_goals exact ⟨_, _, _, rfl, _, fun _ => rfl⟩

/-- Settles O14: with no voice to run on, the operation is the error at W and ADDR of its encoded word. -/
theorem voiceOperationWithoutVoiceIsNoVoice : Obligations.VoiceOperationWithoutVoiceIsNoVoice := by
  unfold Obligations.VoiceOperationWithoutVoiceIsNoVoice
  intro s i v word hi hv hword
  obtain ⟨w, off, d, hencode, f, hexec⟩ := exec_eq_withVoice hi
  obtain rfl : txnWord w (voiceAddr v off) d = word := PortWord.txn.inj (hencode.symm.trans hword)
  rw [hexec, withVoice_of_le hv, txnW_txnWord, txnAddr_txnWord]
  rfl

/-! ### Reads of the voice registers (R202 to R211) -/

/-- Settles O30: each operation reads one register of the voice, which answers its value in the register map. -/
theorem voiceReadsAnswerTheirRegister : Obligations.VoiceReadsAnswerTheirRegister := by
  unfold Obligations.VoiceReadsAnswerTheirRegister
  intro s v x hx
  have hread (q : VoiceReg) {k : Nat} {i : Instr} (hk : voiceRegValue x q = some k) (hi : readOp (.voice v q) = some i) :
      exec i s = .next (answered (BitVec.ofNat 32 k) s) :=
    exec_of_readAnswers (readAnswers_voice hx hk) hi
  refine ⟨?rdVPinc, ?rdVPhase, ?rdVEnv, hread .V_ELAPSED rfl rfl, hread .V_START rfl rfl, hread .V_WAVE rfl rfl⟩
  case rdVPinc => simpa using hread .V_PINC rfl rfl
  case rdVPhase => simpa using hread .V_PHASE rfl rfl
  case rdVEnv =>
    rw [hread .V_ENV rfl rfl]
    cases x.ph <;> rfl

/-! ### Writes of a voice (R201, R203, R206, R207) -/

/-- An operation that writes a voice there is answers 0 on the state with the written voice in its place. -/
theorem exec_of_voiceChange {s : State} {i : Instr} {v : BitVec 4} {x y : Voice} (hx : s.voice[v.toNat]? = some x)
    (h : VoiceChange s.active.WAVEFORM v x i y) : exec i s = .next (answered 0#32 (withVoiceAt v y s)) := by
  cases h <;> exact (withVoice_of_some hx).trans (writeDone_eq_answered rfl)

/-- Settles O38: each write is the change of its one field. -/
theorem voiceWritesStoreTheirField : Obligations.VoiceWritesStoreTheirField := by
  unfold Obligations.VoiceWritesStoreTheirField
  intro s v x d hx
  exact ⟨exec_of_voiceChange hx (.pinc d), exec_of_voiceChange hx (.phase d)⟩

theorem withVoiceAt_eq_self {s : State} {v : BitVec 4} {x : Voice} (hx : s.voice[v.toNat]? = some x) :
    withVoiceAt v x s = s := by
  obtain ⟨hv, rfl⟩ := List.getElem?_eq_some_iff.1 hx
  rw [withVoiceAt, List.set_getElem_self]

theorem withVoiceAt_voice_self {s : State} {v : BitVec 4} {x : Voice} (y : Voice) (hx : s.voice[v.toNat]? = some x) :
    (withVoiceAt v y s).voice[v.toNat]? = some y :=
  List.getElem?_set_self (List.getElem?_eq_some_iff.1 hx).1

/-- GATE_ON starts from L, which it keeps, so a second one finds what it would write. -/
theorem gateOnVoice_idem (wave : BitVec 2) (x : Voice) :
    gateOnVoice wave (gateOnVoice wave x) = gateOnVoice wave x := rfl

/-- Settles O39: GATE_ON puts `gateOnVoice` in the voice's place, and the same again changes nothing. -/
theorem gateOnStartsAttackFromCurrentLevel : Obligations.GateOnStartsAttackFromCurrentLevel := by
  unfold Obligations.GateOnStartsAttackFromCurrentLevel
  intro s v x hx
  refine ⟨_, exec_of_voiceChange hx .gateOn, rfl, ?_⟩
  have hy : (answered 0#32 (withVoiceAt v (gateOnVoice s.active.WAVEFORM x) s)).voice[v.toNat]? =
      some (gateOnVoice s.active.WAVEFORM x) := withVoiceAt_voice_self _ hx
  rw [exec_of_voiceChange hy .gateOn, gateOnVoice_idem, withVoiceAt_eq_self hy]

theorem gateOffVoice_of_gated {x : Voice} (h : x.ph = .Attack ∨ x.ph = .Decay ∨ x.ph = .Sustain) :
    gateOffVoice x = { x with ph := .Release, S := x.L, k := 0#24 } := by
  rcases h with h | h | h <;> simp [gateOffVoice, h]

theorem gateOffVoice_of_not_gated {x : Voice} (h : x.ph = .Idle ∨ x.ph = .Release) : gateOffVoice x = x := by
  rcases h with h | h <;> simp [gateOffVoice, h]

/-- Settles O40: GATE_OFF puts `gateOffVoice` in the voice's place, which in Idle and Release is the voice itself. -/
theorem gateOffStartsReleaseOrIsIgnored : Obligations.GateOffStartsReleaseOrIsIgnored := by
  unfold Obligations.GateOffStartsReleaseOrIsIgnored
  intro s v x hx
  have hexec := exec_of_voiceChange hx .gateOff
  constructor
  · intro hgated
    rw [hexec, gateOffVoice_of_gated hgated]
  · intro hignored
    rw [hexec, gateOffVoice_of_not_gated hignored, withVoiceAt_eq_self hx]

end Sys2Proof.Machine
end

section
/-! SUPPORT. The TICK operation (43_tick.md R230 to R235): its frame, what it does to a voice, that nothing else emits a sample, the
silence of a block with no voice gated on, and that shadow writes between TICKs are not seen. -/

namespace Sys2Proof.Machine

/-! ### Shadow writes between TICKs (R161, R233, R340) -/

/-- The two states agree but for the shadow set, PENDING and the record of the responses. -/
def SameButShadow (t u : State) : Prop :=
  t = { u with shadow := t.shadow, PENDING := t.PENDING, responses := t.responses }

theorem SameButShadow.refl (s : State) : SameButShadow s s := rfl

theorem SameButShadow.tick {t u : State} (h : SameButShadow t u) : SameButShadow (tickState t) (tickState u) :=
  (congrArg tickState h).trans (tickState_withShadow u t.shadow t.PENDING t.responses)

theorem SameButShadow.write {t u : State} (h : SameButShadow t u) (P : ParamSet) :
    SameButShadow (respond .ok 0#32 (setShadow P t)) u :=
  congrArg (fun s => respond .ok 0#32 (setShadow P s)) h

/-- The simulation: of two states that agree but for the shadow side, one runs a list of TICKs and shadow writes and the other its
TICKs alone, and they end so again. -/
theorem SameButShadow.run {is : List Instr} (his : ∀ i ∈ is, i = .tick ∨ isShadowWrite i = true) {s r : State}
    (h : SameButShadow s r) :
    ∃ t u, execAll is s = .next t ∧ execAll (is.filter (fun i => decide (i = .tick))) r = .next u ∧ SameButShadow t u := by
  induction is generalizing s r with
  | nil => exact ⟨s, r, rfl, rfl, h⟩
  | cons i is ih =>
    obtain ⟨hi, hrest⟩ := List.forall_mem_cons.1 his
    rcases hi with rfl | hi
    · obtain ⟨t, u, ht, hu, htu⟩ := ih hrest h.tick
      exact ⟨t, u, (execAll_cons_of_next (exec_tick s)).trans ht, (execAll_cons_of_next (exec_tick r)).trans hu, htu⟩
    · have htick : i ≠ .tick := by rintro rfl; cases hi
      obtain ⟨p, d, rfl⟩ := exists_shadowWrite_of_isShadowWrite hi
      obtain ⟨t, u, ht, hu, htu⟩ := ih hrest (h.write (storeParam d s.shadow p))
      refine ⟨t, u, (execAll_cons_of_next (exec_shadowWrite p d s)).trans ht, ?_, htu⟩
      rwa [List.filter_cons_of_neg (by simpa using htick)]

/-- Settles O56: the two runs start from the same state and keep it the same but for the shadow side. -/
theorem shadowWritesInvisibleUntilCommit : Obligations.ShadowWritesInvisibleUntilCommit := by
  unfold Obligations.ShadowWritesInvisibleUntilCommit
  intro is s his
  exact SameButShadow.run his (.refl s)

/-! ### The samples a step emits (R231) -/

/-- Only the strobe of 1 decodes to TICK (R96). -/
theorem decode_eq_tick_iff {n : Nat} {p : PortWord} : decode n p = .op .tick ↔ p = .strobe 1#1 := by
  constructor
  · intro h
    cases p with
    | txn w =>
      obtain ⟨-, a, d, hencode⟩ := encode_of_decode_txn h
      cases hencode
    | strobe b =>
      obtain ⟨-, hstrobe⟩ := encodeInvertsDecode
      exact (hstrobe n b .tick h).symm
  · rintro rfl
    rfl

theorem Effect.samples_cases {s t : State} {i : Instr} (h : Effect s i t) : t.samples = s.samples ∨ i = .tick := by
  cases h with
  | tick => exact .inr rfl
  | _ => exact .inl rfl

theorem performPort_samples_cases {p : PortWord} {s t : State} (h : performPort p s = .next t) :
    t.samples = s.samples ∨ (s.rst = false ∧ p = .strobe 1#1) := by
  rcases performPort_cases p s with ⟨-, hp⟩ | ⟨hrst, i, hd, hp⟩ | ⟨-, w, c, -, -, hp⟩ | ⟨-, -, hp⟩ <;> rw [hp] at h
  case inl => cases h; exact .inl rfl
  case inr.inl =>
    rcases (effect_of_exec h).samples_cases with hsame | rfl
    · exact .inl hsame
    · exact .inr ⟨hrst, decode_eq_tick_iff.1 hd⟩
  case inr.inr.inl => cases h; exact .inl rfl
  case inr.inr.inr => cases h; exact .inl rfl

theorem setRst_samples (l : Bool) (s : State) : (setRst l s).samples = s.samples := by
  rcases setRst_cases l s with ⟨-, -, h⟩ | ⟨-, h⟩ <;> rw [h]
  rfl

theorem step_samples_cases {s t : State} (h : step s = .next t) :
    t.samples = s.samples ∨ (s.rst = false ∧ ∃ rest, s.inputs = .port (.strobe 1#1) :: rest) := by
  rcases step_cases s with ⟨-, hs⟩ | ⟨p, rest, hin, hs⟩ | ⟨l, rest, -, hs⟩ | ⟨rest, -, -, hs⟩ | ⟨rest, -, -, hs⟩ <;>
    rw [hs] at h
  case inl => cases h; exact .inl rfl
  case inr.inl =>
    rcases performPort_samples_cases h with hsame | ⟨hrst, rfl⟩
    · exact .inl hsame
    · exact .inr ⟨hrst, rest, hin⟩
  case inr.inr.inl => cases h; exact .inl (setRst_samples l { s with inputs := rest })
  case inr.inr.inr.inl => cases h; exact .inl rfl
  case inr.inr.inr.inr => cases h

/-- Settles O19: a strobe of 1 runs TICK, and of the other cases of a step none emits. -/
theorem onlyTickEmitsSamples : Obligations.OnlyTickEmitsSamples := by
  unfold Obligations.OnlyTickEmitsSamples
  constructor
  · intro s rest hrst hin
    have hstep : step s = .next (tickState { s with inputs := rest }) :=
      (step_of_op hrst hin (decode_eq_tick_iff.2 rfl)).trans (exec_tick _)
    exact ⟨_, _, hstep, tickState_samples _, BitVec.toNat_add _ _⟩
  · intro s t h hne
    exact (step_samples_cases h).resolve_left hne

/-! ### A voice under a TICK (R232) -/

theorem tickVoice_of_Idle (P : ParamSet) {x : Voice} (h : x.ph = .Idle) : tickVoice P x = x := if_pos h

theorem tickVoice_of_not_Idle (P : ParamSet) {x : Voice} (h : x.ph ≠ .Idle) :
    tickVoice P x = advancePhase (envStep P x) := if_neg h

/-- The envelope step leaves the oscillator's fields alone, so the phase advances by the voice's own increment (R261). -/
theorem advancePhase_envStep (P : ParamSet) (x : Voice) :
    (advancePhase (envStep P x)).phase.toNat = (x.phase.toNat + x.pinc.toNat) % 2 ^ 32 ∧
      (advancePhase (envStep P x)).pinc = x.pinc ∧ (advancePhase (envStep P x)).wave = x.wave := by
  simp [advancePhase, BitVec.toNat_add]

/-- Settles O42: a TICK steps each voice by `tickVoice` of the active set, whatever else the state holds. -/
theorem tickAdvancesActiveVoicesOnly : Obligations.TickAdvancesActiveVoicesOnly := by
  unfold Obligations.TickAdvancesActiveVoicesOnly
  constructor
  · intro s
    refine ⟨tickState s, exec_tick s, fun v x hx => ⟨tickVoice s.active x, tickState_getElem? hx, ?idle, ?active⟩⟩
    case idle => exact tickVoice_of_Idle s.active
    case active =>
      intro hactive
      rw [tickVoice_of_not_Idle s.active hactive]
      exact advancePhase_envStep s.active x
  · intro s u t w v j x y z ht hw hset hx hx' hy hz
    cases ht
    cases hw
    calc y = tickVoice s.active x := Option.some.inj (hy.symm.trans (tickState_getElem? hx))
      _ = tickVoice u.active x := by rw [hset]
      _ = z := Option.some.inj ((tickState_getElem? hx').symm.trans hz)

/-! ### Silence (R234) -/

/-- Every voice is Idle and the filter history is zero. -/
structure Silent (s : State) : Prop where
  idle : ∀ x ∈ s.voice, x.ph = .Idle
  x1 : s.x1 = 0#16
  x2 : s.x2 = 0#16
  y1 : s.y1 = 0#16
  y2 : s.y2 = 0#16

theorem mixSum_of_idle {s : State} (h : ∀ x ∈ s.voice, x.ph = .Idle) : mixSum s = 0 := by
  refine List.sum_eq_zero fun m hm => ?_
  obtain ⟨x, hx, rfl⟩ := List.mem_map.1 hm
  exact if_pos (h x hx)

theorem mixM_zero (P : ParamSet) : mixM P 0 = 0#16 := by
  have hgain : mixGain P 0 = 0 := by simp [mixGain, sra]
  rw [mixM, hgain]
  rfl

/-- With a zero history and a zero input only the rounding constant is left of the filter's sum, and it rounds to 0 (R276). -/
theorem Silent.filterY_zero {s : State} (h : Silent s) (P : ParamSet) : filterY P 0#16 s = 0#16 := by
  have hacc : biquadAcc P 0#16 s.x1 s.x2 s.y1 s.y2 = 0 := by simp [biquadAcc, h.x1, h.x2, h.y1, h.y2]
  rw [filterY, filterR, hacc]
  decide

theorem Silent.mix_zero {s : State} (h : Silent s) : mixM s.active (mixSum s) = 0#16 := by
  rw [mixSum_of_idle h.idle, mixM_zero]

theorem Silent.tick_MIX_OUT {s : State} (h : Silent s) : (tickState s).MIX_OUT = 0#16 := h.mix_zero

theorem Silent.tick_y1 {s : State} (h : Silent s) : (tickState s).y1 = 0#16 := by
  rw [tickState_y1, h.mix_zero, h.filterY_zero]

/-- The sample is 0 whichever output FILTER_EN selects. -/
theorem Silent.tick_LAST_OUT {s : State} (h : Silent s) : (tickState s).LAST_OUT = 0#16 := by
  rw [tickState_LAST_OUT, h.mix_zero, h.filterY_zero, ite_self]

theorem Silent.tick_voice {s : State} (h : Silent s) : (tickState s).voice = s.voice := by
  rw [tickState_voice, List.map_congr_left fun x hx => tickVoice_of_Idle s.active (h.idle x hx), List.map_id']

theorem Silent.tick {s : State} (h : Silent s) : Silent (tickState s) where
  idle := by rw [h.tick_voice]; exact h.idle
  x1 := h.mix_zero
  x2 := h.x1
  y1 := h.tick_y1
  y2 := h.y1

/-- What stands after `j` TICKs from the silent state `s`. -/
structure SilentAfter (s : State) (j : Nat) (u : State) : Prop where
  silent : Silent u
  samples : u.samples = s.samples ++ List.replicate j 0#16
  voice : u.voice = s.voice
  outputs : 1 ≤ j → u.MIX_OUT = 0#16 ∧ u.LAST_OUT = 0#16
  count : u.SAMPLE_COUNT.toNat = (s.SAMPLE_COUNT.toNat + j) % 2 ^ 32

theorem SilentAfter.zero {s : State} (h : Silent s) : SilentAfter s 0 s where
  silent := h
  samples := by simp
  voice := rfl
  outputs := by simp
  count := (Nat.mod_eq_of_lt s.SAMPLE_COUNT.isLt).symm

theorem SilentAfter.succ {s u : State} {j : Nat} (h : SilentAfter s j u) : SilentAfter s (j + 1) (tickState u) where
  silent := h.silent.tick
  samples := by
    rw [tickState_samples, h.silent.tick_LAST_OUT, h.samples, List.replicate_succ', List.append_assoc]
  voice := h.silent.tick_voice.trans h.voice
  outputs _ := ⟨h.silent.tick_MIX_OUT, h.silent.tick_LAST_OUT⟩
  count := by
    rw [tickState_SAMPLE_COUNT, BitVec.toNat_add, h.count, Nat.mod_add_mod, Nat.add_assoc]
    rfl

/-- Settles O55: silence is kept by every TICK, and each adds one zero sample. -/
theorem silentUntilGatedOn : Obligations.SilentUntilGatedOn := by
  unfold Obligations.SilentUntilGatedOn
  intro s j hidle hx1 hx2 hy1 hy2
  obtain ⟨t, ht, h⟩ := ticks_induction (SilentAfter.zero ⟨hidle, hx1, hx2, hy1, hy2⟩) (fun _ _ => SilentAfter.succ) j
  exact ⟨t, ht, h.samples, h.voice, h.silent.x1, h.silent.x2, h.silent.y1, h.silent.y2, h.outputs, h.count⟩

/-! ### The frame of a TICK (R230) -/

/-- Settles O41: the clauses are the fields of `tickState`. -/
theorem tickCompletesWithItsFrame : Obligations.TickCompletesWithItsFrame := by
  unfold Obligations.TickCompletesWithItsFrame
  intro s
  exact ⟨tickState s, exec_tick s, tickState_SAMPLE_COUNT s, tickState_LAST_OUT s, tickState_samples s, rfl,
    tickState_x2 s, tickState_y2 s, tickState_n s, rfl⟩

end Sys2Proof.Machine
end

section
/-! SUPPORT. The envelope (44_envelope.md R240 to R250): the line a ramp's level runs on, what EnvStep does in each phase below and
from its duration on, the moves of a voice's phase, and the runs of TICKs that follow a GATE_ON or a GATE_OFF. -/

namespace Sys2Proof.Machine

/-! ### The line of a ramp (R242) -/

/-- A point of the line from `S` to `T` lies between its ends, whichever of them is higher. -/
theorem line_between (S T : Int) {k D : Nat} (hD : 0 < D) (hk : k ≤ D) :
    min S T ≤ S + tdiv ((T - S) * k) D ∧ S + tdiv ((T - S) * k) D ≤ max S T := by
  obtain ⟨hup, hdown⟩ := tdiv_part_bounds (T - S) hD hk
  rcases le_total 0 (T - S) with hd | hd
  · obtain ⟨hlo, hhi⟩ := hup hd
    omega
  · obtain ⟨hlo, hhi⟩ := hdown hd
    omega

/-- The line's ends are levels, so its points are, and the level stored is the point exactly. -/
theorem rampLevel_toNat (S T : Level) {k D : Nat} (hD : 0 < D) (hk : k ≤ D) :
    ((rampLevel S T k D).toNat : Int) = (S.toNat : Int) + tdiv (((T.toNat : Int) - (S.toNat : Int)) * k) D := by
  obtain ⟨hlo, hhi⟩ := line_between S.toNat T.toNat hD hk
  have hS := S.isLt
  have hT := T.isLt
  rw [rampLevel, BitVec.toNat_ofInt]
  omega

theorem rampLevel_between (S T : Level) {k D : Nat} (hD : 0 < D) (hk : k ≤ D) :
    min S.toNat T.toNat ≤ (rampLevel S T k D).toNat ∧ (rampLevel S T k D).toNat ≤ max S.toNat T.toNat := by
  have hline := line_between S.toNat T.toNat hD hk
  rw [← rampLevel_toNat S T hD hk] at hline
  omega

/-- The further along, the higher: `k` to `l` may be up a rising line or back down a falling one. -/
theorem rampLevel_le_rampLevel {S T : Level} {k l D : Nat} (hk : k ≤ D) (hl : l ≤ D) (hD : 0 < D)
    (h : ((T.toNat : Int) - (S.toNat : Int)) * k ≤ ((T.toNat : Int) - (S.toNat : Int)) * l) :
    (rampLevel S T k D).toNat ≤ (rampLevel S T l D).toNat := by
  have hpart := Int.tdiv_le_tdiv (c := D) (by omega) h
  rw [← Int.ofNat_le, rampLevel_toNat S T hD hk, rampLevel_toNat S T hD hl]
  exact Int.add_le_add_left hpart _

/-- A rising ramp does not fall from one count to the next. -/
theorem rampLevel_le_succ {S T : Level} {k D : Nat} (hST : S.toNat ≤ T.toNat) (hk : k < D) :
    (rampLevel S T k D).toNat ≤ (rampLevel S T (k + 1) D).toNat :=
  rampLevel_le_rampLevel hk.le hk (by omega) (mul_le_mul_of_nonneg_left (by omega) (by omega))

/-- A falling ramp does not rise from one count to the next. -/
theorem rampLevel_succ_le {S T : Level} {k D : Nat} (hTS : T.toNat ≤ S.toNat) (hk : k < D) :
    (rampLevel S T (k + 1) D).toNat ≤ (rampLevel S T k D).toNat :=
  rampLevel_le_rampLevel hk hk.le (by omega) (mul_le_mul_of_nonpos_left (by omega) (by omega))

/-! ### EnvStep below a phase's duration (R241, R242) -/

/-- A ramp phase with its target and its duration. -/
inductive RampOf (P : ParamSet) : EnvPhase → Level → Ticks → Prop
  | attack : RampOf P .Attack levelOne P.ATTACK
  | decay : RampOf P .Decay P.SUSTAIN P.DECAY
  | release : RampOf P .Release 0#16 P.RELEASE

theorem rampStep_of_lt {T : Level} {D : Ticks} {c : Voice → Voice} {x : Voice} (hk : x.k.toNat + 1 < D.toNat) :
    rampStep T D c x =
      { x with k := BitVec.ofNat 24 (x.k.toNat + 1), L := rampLevel x.S T (x.k.toNat + 1) D.toNat } := if_pos hk

theorem rampStep_of_le {T : Level} {D : Ticks} {c : Voice → Voice} {x : Voice} (hk : D.toNat ≤ x.k.toNat + 1) :
    rampStep T D c x = c x := if_neg (Nat.not_lt.2 hk)

/-- Below the duration every ramp phase counts on and puts the level on its line. -/
theorem envStep_of_lt {P : ParamSet} {x : Voice} {ph : EnvPhase} {T : Level} {D : Ticks} (hramp : RampOf P ph T D)
    (hph : x.ph = ph) (hk : x.k.toNat + 1 < D.toNat) :
    envStep P x =
      { x with k := BitVec.ofNat 24 (x.k.toNat + 1), L := rampLevel x.S T (x.k.toNat + 1) D.toNat } := by
  cases hramp with
  | attack => rw [envStep_Attack hph, rampStep_of_lt hk]
  | decay => rw [envStep_Decay hph, rampStep_of_lt hk]
  | release => rw [envStep_Release hph, rampStep_of_lt hk]

/-- A count below a duration fits the register. -/
theorem ofNat_succ_toNat {k D : Ticks} (hk : k.toNat + 1 < D.toNat) : (BitVec.ofNat 24 (k.toNat + 1)).toNat = k.toNat + 1 :=
  (BitVec.toNat_ofNat _ _).trans (Nat.mod_eq_of_lt (hk.trans D.isLt))

/-- Settles O50: below its duration the step stores the next point of the line, which lies between the line's ends. -/
theorem rampLevelLiesOnTheLine : Obligations.RampLevelLiesOnTheLine := by
  unfold Obligations.RampLevelLiesOnTheLine
  intro P x T D hphase _ _ hk
  have hramp : RampOf P x.ph T D := by
    rcases hphase with ⟨hph, rfl, rfl⟩ | ⟨hph, rfl, rfl⟩ | ⟨hph, rfl, rfl⟩ <;> rw [hph]
    · exact .attack
    · exact .decay
    · exact .release
  have hD : 0 < D.toNat := by omega
  rw [envStep_of_lt hramp rfl hk]
  exact ⟨rfl, ofNat_succ_toNat hk, rampLevel_toNat x.S T hD hk.le, rampLevel_between x.S T hD hk.le⟩

/-! ### EnvStep from a phase's duration on (R243 to R247) -/

theorem envStep_Attack_done {P : ParamSet} {x : Voice} (hph : x.ph = .Attack) (hk : P.ATTACK.toNat ≤ x.k.toNat + 1) :
    envStep P x = attackDone P x := by
  rw [envStep_Attack hph, rampStep_of_le hk]

theorem envStep_Decay_done {P : ParamSet} {x : Voice} (hph : x.ph = .Decay) (hk : P.DECAY.toNat ≤ x.k.toNat + 1) :
    envStep P x = enterSustain P.SUSTAIN x := by
  rw [envStep_Decay hph, rampStep_of_le hk]

theorem envStep_Release_done {P : ParamSet} {x : Voice} (hph : x.ph = .Release) (hk : P.RELEASE.toNat ≤ x.k.toNat + 1) :
    envStep P x = releaseDone x := by
  rw [envStep_Release hph, rampStep_of_le hk]

theorem attackDone_of_decay {P : ParamSet} (h : P.DECAY ≠ 0#24) (x : Voice) :
    attackDone P x = { x with ph := .Decay, L := 0x8000#16, S := 0x8000#16, k := 0#24 } := if_neg h

theorem attackDone_of_no_decay {P : ParamSet} (h : P.DECAY = 0#24) (x : Voice) :
    attackDone P x = enterSustain P.SUSTAIN x := if_pos h

theorem sustainCount_toNat (k : Ticks) : (sustainCount k).toNat = min (k.toNat + 1) (2 ^ 24 - 1) := by
  rw [sustainCount, BitVec.toNat_ofNat]
  omega

/-- Settles O51: the completion of each phase, and the step of Sustain. -/
theorem segmentCompletesAtItsTarget : Obligations.SegmentCompletesAtItsTarget := by
  unfold Obligations.SegmentCompletesAtItsTarget
  intro P x
  refine ⟨?attackToDecay, ?attackToSustain, envStep_Decay_done, envStep_Release_done, ?sustain⟩
  case attackToDecay =>
    intro hph hk hdecay
    rw [envStep_Attack_done hph hk, attackDone_of_decay hdecay]
  case attackToSustain =>
    intro hph hk hdecay
    rw [envStep_Attack_done hph hk, attackDone_of_no_decay hdecay]
    rfl
  case sustain =>
    intro hph
    exact ⟨sustainCount x.k, envStep_Sustain hph, sustainCount_toNat x.k⟩

/-! ### The level of a ramp from step to step (R250) -/

/-- Settles O52: below the duration the level goes one count on along its line, which in Attack rises to 1.0 and in Release falls
to 0; a completed Release is at 0, and a completed Attack is no longer in Attack. -/
theorem attackNeverFallsReleaseNeverRises : Obligations.AttackNeverFallsReleaseNeverRises := by
  unfold Obligations.AttackNeverFallsReleaseNeverRises
  rintro P x ⟨-, hS, -, -⟩
  constructor
  · intro hph hkD hline hstays
    rcases Nat.lt_or_ge (x.k.toNat + 1) P.ATTACK.toNat with hk | hk
    · rw [envStep_of_lt .attack hph hk, hline]
      dsimp only
      rw [ofNat_succ_toNat hk]
      exact ⟨rampLevel_le_succ hS hkD, rfl⟩
    · rw [envStep_Attack_done hph hk] at hstays
      unfold attackDone at hstays
      split at hstays <;> cases hstays
  · intro hph hkD hline
    rcases Nat.lt_or_ge (x.k.toNat + 1) P.RELEASE.toNat with hk | hk
    · rw [envStep_of_lt .release hph hk, hline]
      dsimp only
      rw [ofNat_succ_toNat hk]
      exact ⟨rampLevel_succ_le (Nat.zero_le _) hkD, fun _ => rfl⟩
    · rw [envStep_Release_done hph hk]
      exact ⟨Nat.zero_le _, fun h => by cases h⟩

/-! ### The moves of a voice's phase (R240) -/

theorem envStep_Idle {P : ParamSet} {x : Voice} (h : x.ph = .Idle) : envStep P x = x := by
  simp [envStep, h]

/-- The phase advance of a TICK leaves the envelope as EnvStep made it. -/
theorem tickVoice_envelope (P : ParamSet) (x : Voice) :
    (tickVoice P x).ph = (envStep P x).ph ∧ (tickVoice P x).L = (envStep P x).L ∧
      (tickVoice P x).S = (envStep P x).S ∧ (tickVoice P x).k = (envStep P x).k := by
  by_cases h : x.ph = .Idle
  · rw [tickVoice_of_Idle P h, envStep_Idle h]
    exact ⟨rfl, rfl, rfl, rfl⟩
  · rw [tickVoice_of_not_Idle P h]
    exact ⟨rfl, rfl, rfl, rfl⟩

@[simp] theorem tickVoice_ph (P : ParamSet) (x : Voice) : (tickVoice P x).ph = (envStep P x).ph := (tickVoice_envelope P x).1

theorem attackDone_ph_cases (P : ParamSet) (x : Voice) :
    (attackDone P x).ph = .Decay ∨ ((attackDone P x).ph = .Sustain ∧ P.DECAY = 0#24) := by
  by_cases h : P.DECAY = 0#24
  · exact .inr ⟨by rw [attackDone_of_no_decay h]; rfl, h⟩
  · exact .inl (by rw [attackDone_of_decay h])

/-- Every move of the phase that EnvStep can make. -/
theorem envStep_ph_cases (P : ParamSet) (x : Voice) :
    (envStep P x).ph = x.ph ∨ (x.ph = .Attack ∧ (envStep P x).ph = .Decay) ∨
    (x.ph = .Attack ∧ (envStep P x).ph = .Sustain ∧ P.DECAY = 0#24) ∨
    (x.ph = .Decay ∧ (envStep P x).ph = .Sustain) ∨ (x.ph = .Release ∧ (envStep P x).ph = .Idle) := by
  cases hph : x.ph with
  | Idle => exact .inl (by rw [envStep_Idle hph, hph])
  | Attack =>
    rcases Nat.lt_or_ge (x.k.toNat + 1) P.ATTACK.toNat with hk | hk
    · exact .inl (by rw [envStep_of_lt .attack hph hk, hph])
    · rw [envStep_Attack_done hph hk]
      rcases attackDone_ph_cases P x with h | h
      · exact .inr (.inl ⟨rfl, h⟩)
      · exact .inr (.inr (.inl ⟨rfl, h⟩))
  | Decay =>
    rcases Nat.lt_or_ge (x.k.toNat + 1) P.DECAY.toNat with hk | hk
    · exact .inl (by rw [envStep_of_lt .decay hph hk, hph])
    · exact .inr (.inr (.inr (.inl ⟨rfl, by rw [envStep_Decay_done hph hk]; rfl⟩)))
  | Sustain => exact .inl (by rw [envStep_Sustain hph, hph])
  | Release =>
    rcases Nat.lt_or_ge (x.k.toNat + 1) P.RELEASE.toNat with hk | hk
    · exact .inl (by rw [envStep_of_lt .release hph hk, hph])
    · exact .inr (.inr (.inr (.inr ⟨rfl, by rw [envStep_Release_done hph hk]; rfl⟩)))

/-- A step leads a voice in Release to Idle exactly when its Release completes. -/
theorem envStep_ph_eq_Idle_iff {P : ParamSet} {x : Voice} (hph : x.ph = .Release) :
    (envStep P x).ph = .Idle ↔ P.RELEASE.toNat ≤ x.k.toNat + 1 := by
  rcases Nat.lt_or_ge (x.k.toNat + 1) P.RELEASE.toNat with hk | hk
  · rw [envStep_of_lt .release hph hk]
    simp [hph, hk]
  · rw [envStep_Release_done hph hk]
    exact iff_of_true rfl hk

/-- A completed Release sets its voice's bit of IDLE_EVENTS (R247). -/
theorem tickState_IDLE_EVENTS_of_completes {s : State} {v : Nat} {x : Voice} (hv : v < 16) (hx : s.voice[v]? = some x)
    (hph : x.ph = .Release) (hk : s.active.RELEASE.toNat ≤ x.k.toNat + 1) :
    (tickState s).IDLE_EVENTS.getLsbD v = true := by
  rw [tickState_IDLE_EVENTS, BitVec.getLsbD_or, (getLsbD_tickIdleEvents hv).2 ⟨x, hx, hph, hk⟩, Bool.or_true]

/-- Every move of its voice's phase that a write of a voice can make. -/
theorem VoiceChange.ph_cases {wave : BitVec 2} {v : BitVec 4} {x y : Voice} {i : Instr} (h : VoiceChange wave v x i y) :
    y.ph = x.ph ∨ (i = .gateOn v ∧ y.ph = .Attack) ∨
    (i = .gateOff v ∧ y.ph = .Release ∧ (x.ph = .Attack ∨ x.ph = .Decay ∨ x.ph = .Sustain)) := by
  cases h with
  | pinc => exact .inl rfl
  | phase => exact .inl rfl
  | gateOn => exact .inr (.inl ⟨rfl, rfl⟩)
  | gateOff =>
    by_cases hgated : x.ph = .Attack ∨ x.ph = .Decay ∨ x.ph = .Sustain
    · exact .inr (.inr ⟨rfl, by rw [gateOffVoice_of_gated hgated], hgated⟩)
    · have hignored : x.ph = .Idle ∨ x.ph = .Release := by
        revert hgated
        cases x.ph <;> decide
      exact .inl (by rw [gateOffVoice_of_not_gated hignored])

/-- Every move of the phase of voice `v` that an operation can make. -/
theorem Effect.ph_cases {s t : State} {i : Instr} {v : Nat} {x y : Voice} (h : Effect s i t) (hx : s.voice[v]? = some x)
    (hy : t.voice[v]? = some y) :
    y.ph = x.ph ∨ (∃ u : BitVec 4, u.toNat = v ∧ i = .gateOn u ∧ y.ph = .Attack) ∨
    (∃ u : BitVec 4, u.toNat = v ∧ i = .gateOff u ∧ y.ph = .Release ∧
      (x.ph = .Attack ∨ x.ph = .Decay ∨ x.ph = .Sustain)) ∨
    (i = .tick ∧ y = tickVoice s.active x) ∨ (i = .softReset ∧ y.ph = .Idle) := by
  cases h with
  | softReset =>
    have hreset : y = Voice.reset := List.eq_of_mem_replicate (List.mem_of_getElem? hy)
    exact .inr (.inr (.inr (.inr ⟨rfl, hreset ▸ rfl⟩)))
  | tick => exact .inr (.inr (.inr (.inl ⟨rfl, Option.some.inj (hy.symm.trans (tickState_getElem? hx))⟩)))
  | voice i u x' y' hx' hchange =>
    rw [respond_voice, setVoice_voice] at hy
    by_cases huv : u.toNat = v
    · subst huv
      obtain rfl : x' = x := Option.some.inj (hx'.symm.trans hx)
      obtain rfl : y' = y := Option.some.inj ((withVoiceAt_voice_self y' hx').symm.trans hy)
      rcases hchange.ph_cases with h | ⟨hi, h⟩ | ⟨hi, h⟩
      · exact .inl h
      · exact .inr (.inl ⟨u, rfl, hi, h⟩)
      · exact .inr (.inr (.inl ⟨u, rfl, hi, h⟩))
    · rw [List.getElem?_set_ne huv] at hy
      exact .inl (congrArg Voice.ph (Option.some.inj (hy.symm.trans hx)))
  | _ => exact .inl (congrArg Voice.ph (Option.some.inj (hy.symm.trans hx)))

/-- Settles O21: a phase moves by a gate, by SOFT_RESET or by the EnvStep of a TICK, and the completion of Release is the one way
from Release to Idle. -/
theorem envelopePhaseTransitions : Obligations.EnvelopePhaseTransitions := by
  unfold Obligations.EnvelopePhaseTransitions
  intro s t i v x y h hx hy
  constructor
  · rcases (effect_of_exec h).ph_cases hx hy with
      hsame | ⟨u, hu, hi, hon⟩ | ⟨u, hu, hi, hoff, hgated⟩ | ⟨hi, rfl⟩ | hreset
    · exact .inl hsame
    · exact .inr (.inl ⟨hon, u, hu, hi⟩)
    · exact .inr (.inr (.inl ⟨hoff, hgated, u, hu, hi⟩))
    · rw [tickVoice_ph]
      exact (envStep_ph_cases s.active x).imp id fun hmoves => .inr (.inr (.inl ⟨hi, hmoves⟩))
    · exact .inr (.inr (.inr (.inr hreset)))
  · rintro rfl hph
    cases h
    obtain rfl : tickVoice s.active x = y := Option.some.inj ((tickState_getElem? hx).symm.trans hy)
    rw [tickVoice_ph, envStep_ph_eq_Idle_iff hph]
    exact ⟨Iff.rfl, fun hk hv => tickState_IDLE_EVENTS_of_completes hv hx hph hk⟩

/-! ### Runs of TICKs on one voice (R232, R249) -/

/-- A property of the count, the state and voice `v` that a TICK with the active set of `s` carries on holds after every run of
TICKs from `s`: nothing in the run writes the active set. -/
theorem ticks_voice_induction {Q : Nat → State → Voice → Prop} {s : State} {v : Nat} {x : Voice}
    (hx : s.voice[v]? = some x) (h0 : Q 0 s x)
    (hstep : ∀ j u y, u.active = s.active → u.voice[v]? = some y → Q j u y →
      Q (j + 1) (tickState u) (tickVoice s.active y)) (j : Nat) :
    ∃ u y, ticks j s = .next u ∧ u.voice[v]? = some y ∧ Q j u y := by
  obtain ⟨u, hu, -, y, hy, hQ⟩ := ticks_induction
    (P := fun j u => u.active = s.active ∧ ∃ y, u.voice[v]? = some y ∧ Q j u y) ⟨rfl, x, hx, h0⟩
    (fun j u ⟨hactive, y, hy, hQ⟩ =>
      ⟨hactive, _, hactive ▸ tickState_getElem? hy, hstep j u y hactive hy hQ⟩) j
  exact ⟨u, y, hu, hy, hQ⟩

/-- A voice `j` counts into the segment `ph` that it began at level `S`. -/
structure InSegment (ph : EnvPhase) (S : Level) (j : Nat) (y : Voice) : Prop where
  ph : y.ph = ph
  k : y.k.toNat = j
  S : y.S = S

/-- Below the duration a TICK takes a voice one count further into its segment, with its level on the line. -/
theorem InSegment.tick {P : ParamSet} {ph : EnvPhase} {T S : Level} {D : Ticks} {j : Nat} {y : Voice}
    (h : InSegment ph S j y) (hramp : RampOf P ph T D) (hj : j + 1 < D.toNat) :
    InSegment ph S (j + 1) (tickVoice P y) ∧ (tickVoice P y).L = rampLevel S T (j + 1) D.toNat := by
  obtain ⟨hph, rfl, rfl⟩ := h
  obtain ⟨hph', hL', hS', hk'⟩ := tickVoice_envelope P y
  rw [envStep_of_lt hramp hph hj] at hph' hL' hS' hk'
  exact ⟨⟨hph'.trans hph, hk' ▸ ofNat_succ_toNat hj, hS'⟩, hL'⟩

/-- A voice that has just entered the phase `ph` at level `L₀`, which is where its segment starts. -/
structure Entered (ph : EnvPhase) (L₀ : Level) (y : Voice) : Prop where
  ph : y.ph = ph
  L : y.L = L₀
  S : y.S = L₀
  k : y.k = 0#24

/-- A write of a voice leaves the active set, and puts the written voice in its place. -/
theorem exec_of_voiceChange_voice {s t : State} {i : Instr} {v : BitVec 4} {x y : Voice} (hx : s.voice[v.toNat]? = some x)
    (h : VoiceChange s.active.WAVEFORM v x i y) (ht : exec i s = .next t) :
    t.active = s.active ∧ t.voice[v.toNat]? = some y := by
  rw [exec_of_voiceChange hx h] at ht
  cases ht
  exact ⟨rfl, withVoiceAt_voice_self y hx⟩

/-! ### From GATE_OFF to Idle (R207, R247, R250) -/

/-- What stands `j` TICKs after a GATE_OFF of voice `v` at level `L`, under the active set `P`. -/
structure ReleaseAfter (P : ParamSet) (L : Level) (v j : Nat) (u : State) (y : Voice) : Prop where
  releasing : j < max P.RELEASE.toNat 1 → InSegment .Release L j y ∧ y.L.toNat ≤ L.toNat
  released : max P.RELEASE.toNat 1 ≤ j → Entered .Idle 0#16 y ∧ u.IDLE_EVENTS.getLsbD v = true

/-- The TICK that completes a Release. -/
theorem tickVoice_Release_done {P : ParamSet} {y : Voice} (hph : y.ph = .Release) (hk : P.RELEASE.toNat ≤ y.k.toNat + 1) :
    Entered .Idle 0#16 (tickVoice P y) := by
  obtain ⟨hph', hL', hS', hk'⟩ := tickVoice_envelope P y
  rw [envStep_Release_done hph hk] at hph' hL' hS' hk'
  exact ⟨hph', hL', hS', hk'⟩

theorem ReleaseAfter.succ {P : ParamSet} {L : Level} {v j : Nat} {u : State} {y : Voice} (hv : v < 16)
    (hactive : u.active = P) (hy : u.voice[v]? = some y) (h : ReleaseAfter P L v j u y) :
    ReleaseAfter P L v (j + 1) (tickState u) (tickVoice P y) := by
  subst hactive
  constructor
  · intro hj
    obtain ⟨hsegment, -⟩ := h.releasing (by omega)
    have hlt : j + 1 < u.active.RELEASE.toNat := by omega
    obtain ⟨hnext, hlevel⟩ := hsegment.tick .release hlt
    obtain ⟨-, hle⟩ := rampLevel_between L 0#16 (Nat.zero_lt_of_lt hlt) hlt.le
    exact ⟨hnext, hlevel ▸ hle.trans (by simp)⟩
  · intro hj
    rcases Nat.lt_or_ge j (max u.active.RELEASE.toNat 1) with hlt | hge
    · obtain ⟨⟨hph, hk, -⟩, -⟩ := h.releasing hlt
      have hdone : u.active.RELEASE.toNat ≤ y.k.toNat + 1 := by omega
      exact ⟨tickVoice_Release_done hph hdone, tickState_IDLE_EVENTS_of_completes hv hy hph hdone⟩
    · obtain ⟨hreleased, hevent⟩ := h.released hge
      refine ⟨(tickVoice_of_Idle u.active hreleased.ph).symm ▸ hreleased, ?_⟩
      rw [tickState_IDLE_EVENTS, BitVec.getLsbD_or, hevent, Bool.true_or]

/-- Settles O53: GATE_OFF begins a Release at the voice's level, and every TICK carries it on. -/
theorem releaseReachesIdleAfterItsDuration : Obligations.ReleaseReachesIdleAfterItsDuration := by
  unfold Obligations.ReleaseReachesIdleAfterItsDuration
  intro s t v x _ hx hgated ht D j
  obtain ⟨hactive, hvoice⟩ := exec_of_voiceChange_voice hx .gateOff ht
  rw [gateOffVoice_of_gated hgated] at hvoice
  obtain ⟨u, y, hu, hy, h⟩ := ticks_voice_induction (Q := ReleaseAfter t.active x.L v.toNat) hvoice
    ⟨fun _ => ⟨⟨rfl, rfl, rfl⟩, le_rfl⟩, fun _ => by omega⟩
    (fun _ _ _ hactive hy h => h.succ v.isLt hactive hy) j
  rw [hactive] at h
  refine ⟨u, y, hu, hy, fun hj => ?_, fun hj => ?_⟩
  · obtain ⟨⟨hph, hk, hS⟩, hL⟩ := h.releasing hj
    exact ⟨hph, hk, hS, hL⟩
  · obtain ⟨⟨hph, hL, hS, hk⟩, hevent⟩ := h.released hj
    exact ⟨hph, hL, hS, hk, hevent⟩

/-! ### From GATE_ON through Attack (R206, R246, R250) -/

/-- A voice past its Attack: in Sustain, or in a Decay that has a duration. -/
def PastAttack (P : ParamSet) (y : Voice) : Prop := y.ph = .Sustain ∨ (y.ph = .Decay ∧ P.DECAY ≠ 0#24)

/-- What stands `j` TICKs after a GATE_ON of a voice at level `L`, under the active set `P`. -/
structure AttackAfter (P : ParamSet) (L : Level) (j : Nat) (y : Voice) : Prop where
  attacking : j < max P.ATTACK.toNat 1 → InSegment .Attack L j y ∧ L.toNat ≤ y.L.toNat
  decay : j = max P.ATTACK.toNat 1 → P.DECAY ≠ 0#24 → Entered .Decay 0x8000#16 y
  sustain : j = max P.ATTACK.toNat 1 → P.DECAY = 0#24 → Entered .Sustain P.SUSTAIN y
  past : max P.ATTACK.toNat 1 ≤ j → PastAttack P y

/-- The TICK that completes an Attack. -/
theorem tickVoice_Attack_done {P : ParamSet} {y : Voice} (hph : y.ph = .Attack) (hk : P.ATTACK.toNat ≤ y.k.toNat + 1) :
    (P.DECAY ≠ 0#24 → Entered .Decay 0x8000#16 (tickVoice P y)) ∧
    (P.DECAY = 0#24 → Entered .Sustain P.SUSTAIN (tickVoice P y)) := by
  obtain ⟨hph', hL', hS', hk'⟩ := tickVoice_envelope P y
  constructor <;> intro hdecay
  · rw [envStep_Attack_done hph hk, attackDone_of_decay hdecay] at hph' hL' hS' hk'
    exact ⟨hph', hL', hS', hk'⟩
  · rw [envStep_Attack_done hph hk, attackDone_of_no_decay hdecay] at hph' hL' hS' hk'
    exact ⟨hph', hL', hS', hk'⟩

/-- No TICK leads back into Attack, or out of Sustain. -/
theorem PastAttack.tick {P : ParamSet} {y : Voice} (h : PastAttack P y) : PastAttack P (tickVoice P y) := by
  unfold PastAttack at h ⊢
  rw [tickVoice_ph]
  rcases h with hph | ⟨hph, hdecay⟩
  · exact .inl (by rw [envStep_Sustain hph, hph])
  · rcases Nat.lt_or_ge (y.k.toNat + 1) P.DECAY.toNat with hk | hk
    · exact .inr ⟨by rw [envStep_of_lt .decay hph hk, hph], hdecay⟩
    · exact .inl (by rw [envStep_Decay_done hph hk]; rfl)

theorem AttackAfter.succ {P : ParamSet} {L : Level} {j : Nat} {y : Voice} (hL : L.toNat ≤ 0x8000)
    (h : AttackAfter P L j y) : AttackAfter P L (j + 1) (tickVoice P y) := by
  rcases Nat.lt_trichotomy (j + 1) (max P.ATTACK.toNat 1) with hlt | heq | hgt
  · obtain ⟨hsegment, -⟩ := h.attacking (by omega)
    have hj : j + 1 < P.ATTACK.toNat := by omega
    obtain ⟨hnext, hlevel⟩ := hsegment.tick .attack hj
    obtain ⟨hge, -⟩ := rampLevel_between L levelOne (Nat.zero_lt_of_lt hj) hj.le
    have hmin : min L.toNat levelOne.toNat = L.toNat := min_eq_left hL
    exact ⟨fun _ => ⟨hnext, hlevel ▸ hmin ▸ hge⟩, fun _ => by omega, fun _ => by omega, fun _ => by omega⟩
  · obtain ⟨⟨hph, hk, -⟩, -⟩ := h.attacking (by omega)
    obtain ⟨hdecay, hsustain⟩ := tickVoice_Attack_done hph (by omega : P.ATTACK.toNat ≤ y.k.toNat + 1)
    refine ⟨fun _ => by omega, fun _ => hdecay, fun _ => hsustain, fun _ => ?_⟩
    by_cases hd : P.DECAY = 0#24
    · exact .inl (hsustain hd).ph
    · exact .inr ⟨(hdecay hd).ph, hd⟩
  · exact ⟨fun _ => by omega, fun _ => by omega, fun _ => by omega, fun _ => (h.past (by omega)).tick⟩

/-- Settles O54: GATE_ON begins an Attack at the voice's level, and every TICK carries it on. -/
theorem attackReachesFullLevelAfterItsDuration : Obligations.AttackReachesFullLevelAfterItsDuration := by
  unfold Obligations.AttackReachesFullLevelAfterItsDuration
  rintro s t v x ⟨-, -, hvoice, -⟩ hx ht D j
  obtain ⟨hL, -⟩ := hvoice x (List.mem_of_getElem? hx)
  obtain ⟨hactive, hy₀⟩ := exec_of_voiceChange_voice hx .gateOn ht
  obtain ⟨u, y, hu, hy, h⟩ := ticks_voice_induction (Q := fun j _ y => AttackAfter t.active x.L j y) hy₀
    ⟨fun _ => ⟨⟨rfl, rfl, rfl⟩, le_rfl⟩, fun _ => by omega, fun _ => by omega,
      fun _ => by omega⟩
    (fun _ _ _ _ _ h => h.succ hL) j
  rw [hactive] at h
  refine ⟨u, y, hu, hy, fun hj => ?_, fun hj hdecay => ?_, fun hj hdecay => ?_, fun hj => h.past hj.le⟩
  · obtain ⟨⟨hph, hk, hS⟩, hlevel⟩ := h.attacking hj
    exact ⟨hph, hk, hS, hlevel⟩
  · obtain ⟨hph, hL, hS, hk⟩ := h.decay hj hdecay
    exact ⟨hph, hL, hS, hk⟩
  · obtain ⟨hph, hL, hS, hk⟩ := h.sustain hj hdecay
    exact ⟨hph, hL, hS, hk⟩

end Sys2Proof.Machine
end

section
/-! SUPPORT. The oscillator (45_oscillator.md R262 to R268): the sine table from its first quarter, the waveforms as formulas of the
phase's number with their ranges, and the voice sample as a rounded product. -/

namespace Sys2Proof.Machine

/-! ### The voice sample (R268) -/

theorem voiceSample_eq_fdiv (o : Int) (L : Level) : voiceSample o L = Int.fdiv (o * (L.toNat : Int)) (2 ^ 15) :=
  (Int.fdiv_eq_ediv_of_nonneg _ (by decide)).symm

/-- A level is at most 1.0, so the exact product lies between the bounds of the oscillator scaled by 2^15. -/
theorem voiceSample_bounds {o : Int} {L : Level} (hlo : -32768 ≤ o) (hhi : o ≤ 32767) (hL : L.toNat ≤ 0x8000) :
    -32768 ≤ voiceSample o L ∧ voiceSample o L ≤ 32767 := by
  have h0 : (0 : Int) ≤ L.toNat := Int.natCast_nonneg _
  have h1 : (L.toNat : Int) ≤ 2 ^ 15 := by exact_mod_cast hL
  exact sra_bounds 15 ⟨by nlinarith, by nlinarith⟩

@[simp] theorem voiceSample_levelOne (o : Int) : voiceSample o levelOne = o :=
  Int.mul_ediv_cancel o (by decide)

@[simp] theorem voiceSample_zero (o : Int) : voiceSample o 0#16 = 0 := by
  simp [voiceSample, sra]

/-- Settles O49: the shift is the division rounded toward minus infinity; the examples evaluate. -/
theorem voiceSampleScalesTheOscillator : Obligations.VoiceSampleScalesTheOscillator := by
  unfold Obligations.VoiceSampleScalesTheOscillator
  constructor
  · intro o L hlo hhi hL
    refine ⟨voiceSample_eq_fdiv o L, voiceSample_bounds hlo hhi hL, ?full, ?zero⟩
    case full => rintro rfl; exact voiceSample_levelOne o
    case zero => rintro rfl; exact voiceSample_zero o
  · decide

/-! ### The default sine table (R262)

Its first quarter rises, its second mirrors the first, and its second half is the first negated. These three facts are read off
the listed rows; the bounds, the extremes and the zeros follow from them. -/

theorem sineDefault_lt_succ : ∀ i, i < 256 → sineDefault i < sineDefault (i + 1) := by
  decide +kernel

theorem sineDefault_mirror : ∀ i, i ≤ 256 → sineDefault (256 - i) = sineDefault (256 + i) := by
  decide +kernel

theorem sineRows_half_add : ∀ r, r < 32 → sineRows.getD (32 + r) [] = (sineRows.getD r []).map Neg.neg := by
  decide +kernel

theorem sineDefault_half_add {i : Nat} (hi : i < 512) : sineDefault (512 + i) = -sineDefault i := by
  have hrow : (512 + i) / 16 = 32 + i / 16 := by omega
  have hcol : (512 + i) % 16 = i % 16 := by omega
  rw [sineDefault, hrow, hcol, sineRows_half_add _ (by omega)]
  exact List.getD_map _ 0 Neg.neg

theorem sineRows_length : sineRows.length = 64 := rfl

theorem sineDefault_of_ge {i : Nat} (h : 1024 ≤ i) : sineDefault i = 0 := by
  have hrow : sineRows.getD (i / 16) [] = [] := List.getD_eq_default _ _ (by rw [sineRows_length]; omega)
  rw [sineDefault, hrow]
  rfl

theorem sineDefault_strictMonoOn : StrictMonoOn sineDefault (Set.Iic 256) :=
  strictMonoOn_of_lt_add_one Set.ordConnected_Iic fun i _ _ hi => sineDefault_lt_succ i hi

/-- What a rise from 0 to 32767 says of the first quarter's values. -/
theorem sineDefault_quarter {i : Nat} (hi : i ≤ 256) :
    (0 ≤ sineDefault i ∧ sineDefault i ≤ 32767) ∧ (sineDefault i = 32767 ↔ i = 256) ∧ (sineDefault i = 0 ↔ i = 0) := by
  have hzero : sineDefault 0 = 0 := by decide
  have hpeak : sineDefault 256 = 32767 := by decide
  have hmono := sineDefault_strictMonoOn
  have hlast : 256 ∈ Set.Iic 256 := Set.self_mem_Iic
  refine ⟨⟨?_, ?_⟩, ?_, ?_⟩
  · exact hzero ▸ hmono.monotoneOn (Nat.zero_le 256) hi (Nat.zero_le i)
  · exact hpeak ▸ hmono.monotoneOn hi hlast hi
  · exact hpeak ▸ hmono.injOn.eq_iff hi hlast
  · rw [← hmono.injOn.eq_iff hi (Nat.zero_le 256), hzero]

/-- The first half is the first quarter and its mirror image. -/
theorem sineDefault_half {i : Nat} (hi : i < 512) :
    (0 ≤ sineDefault i ∧ sineDefault i ≤ 32767) ∧ (sineDefault i = 32767 ↔ i = 256) ∧ (sineDefault i = 0 ↔ i = 0) := by
  rcases Nat.le_total i 256 with hle | hge
  · exact sineDefault_quarter hle
  · have hmirror : sineDefault (512 - i) = sineDefault i := by
      have h := sineDefault_mirror (i - 256) (by omega)
      rwa [show 256 - (i - 256) = 512 - i by omega, Nat.add_sub_cancel' hge] at h
    obtain ⟨hbounds, hpeak, hzero⟩ := sineDefault_quarter (i := 512 - i) (by omega)
    rw [hmirror] at hbounds hpeak hzero
    exact ⟨hbounds, hpeak.trans (by omega), hzero.trans (by omega)⟩

/-- The whole table is the first half and its negation. -/
theorem sineDefault_values {i : Nat} (hi : i < 1024) :
    (-32767 ≤ sineDefault i ∧ sineDefault i ≤ 32767) ∧ (sineDefault i = 32767 ↔ i = 256) ∧
    (sineDefault i = -32767 ↔ i = 768) ∧ (sineDefault i = 0 ↔ i = 0 ∨ i = 512) := by
  rcases Nat.lt_or_ge i 512 with hlt | hge
  · obtain ⟨hbounds, hpeak, hzero⟩ := sineDefault_half hlt
    omega
  · obtain ⟨hbounds, hpeak, hzero⟩ := sineDefault_half (i := i - 512) (by omega)
    have hneg := sineDefault_half_add (i := i - 512) (by omega)
    rw [Nat.add_sub_cancel' hge] at hneg
    omega

/-! ### The entries of a well-formed table (R262) -/

theorem toInt_ge_of_ne_min {e : Sample} (h : e ≠ 0x8000#16) : -32767 ≤ e.toInt := by
  have hne : e.toInt ≠ (0x8000#16 : Sample).toInt := fun heq => h (BitVec.eq_of_toInt_eq heq)
  have hmin : (0x8000#16 : Sample).toInt = -32768 := by decide
  obtain ⟨hlo, -⟩ := sample_bounds e
  omega

/-- R262 excludes -32768 from a build's own table. -/
theorem entry_ne_min_of_wf {entries : List Sample} (h : SineTable.wf (.custom entries) = true) {e : Sample}
    (he : e ∈ entries) : e ≠ 0x8000#16 := by
  obtain ⟨-, hall⟩ := (Bool.and_eq_true _ _).mp h
  exact of_decide_eq_true (List.all_eq_true.1 hall e he)

theorem sineEntry_bounds {t : SineTable} (h : t.wf = true) (i : Nat) : -32767 ≤ sineEntry t i ∧ sineEntry t i ≤ 32767 := by
  cases t with
  | standard =>
    rcases Nat.lt_or_ge i 1024 with hlt | hge
    · exact (sineDefault_values hlt).1
    · rw [sineEntry, sineDefault_of_ge hge]
      decide
  | custom entries =>
    refine ⟨toInt_ge_of_ne_min ?_, (sample_bounds _).2⟩
    rcases Nat.lt_or_ge i entries.length with hlt | hge
    · rw [List.getD_eq_getElem _ _ hlt]
      exact entry_ne_min_of_wf h (List.getElem_mem hlt)
    · rw [List.getD_eq_default _ _ hge]
      decide

/-- Settles O48: the default table's values and symmetries, and the bounds of a well-formed table. -/
theorem sineTableSymmetries : Obligations.SineTableSymmetries := by
  unfold Obligations.SineTableSymmetries
  refine ⟨fun i hi => ?_, fun t i h => sineEntry_bounds h i⟩
  obtain ⟨hbounds, hpeak, hlow, hzero⟩ := sineDefault_values hi
  exact ⟨hbounds, hpeak, hlow, hzero, sineDefault_half_add, sineDefault_mirror i⟩

/-! ### The waveforms as formulas of the phase's number (R263 to R266) -/

/-- A field that ends at bit 31 is a quotient of the word. -/
theorem toNat_extractLsb'_top (p : Word) {start len : Nat} (h : start + len = 32) :
    (p.extractLsb' start len).toNat = p.toNat / 2 ^ start := by
  have hlt : p.toNat / 2 ^ start < 2 ^ len := by
    rw [Nat.div_lt_iff_lt_mul (Nat.two_pow_pos start), ← Nat.pow_add, Nat.add_comm, h]
    exact p.isLt
  rw [BitVec.extractLsb'_toNat, Nat.shiftRight_eq_div_pow, Nat.mod_eq_of_lt hlt]

theorem oscSine_eq (t : SineTable) (p : Word) : oscSine t p = sineEntry t (p.toNat / 2 ^ 22) := by
  rw [oscSine, toNat_extractLsb'_top p rfl]

theorem oscSquare_eq (p : Word) : oscSquare p = if p.toNat < 2 ^ 31 then 32767 else -32767 := by
  have hbit : p.getLsbD 31 = true ↔ ¬ p.toNat < 2 ^ 31 := by
    rw [getLsbD_eq_decide_div, decide_eq_true_iff]
    omega
  rw [oscSquare, if_congr hbit rfl rfl, ite_not]

/-- The mask of R265 keeps the low 15 bits. -/
theorem toNat_and_0x7FFF (u : BitVec 16) : (u &&& 0x7FFF#16).toNat = u.toNat % 2 ^ 15 :=
  Nat.and_two_pow_sub_one_eq_mod u.toNat 15

theorem oscTriangle_eq (p : Word) : oscTriangle p =
    if p.toNat / 2 ^ 16 < 0x8000 then 2 * ((p.toNat / 2 ^ 16 : Nat) : Int) - 32767
    else 2 * (0xFFFF - ((p.toNat / 2 ^ 16 : Nat) : Int)) - 32767 := by
  have hu : (p.extractLsb' 16 16).toNat = p.toNat / 2 ^ 16 := toNat_extractLsb'_top p rfl
  simp only [oscTriangle, hu]
  split
  · rw [toNat_and_0x7FFF, hu]
    omega
  · rw [toNat_and_0x7FFF, BitVec.toNat_not, hu]
    omega

theorem oscSaw_eq (p : Word) : oscSaw p = ((p.toNat / 2 ^ 16 : Nat) : Int) - 32768 := by
  rw [oscSaw, toNat_extractLsb'_top p rfl]

/-! ### Their ranges, and the oscillator's (R267) -/

theorem oscSquare_bounds (p : Word) : -32767 ≤ oscSquare p ∧ oscSquare p ≤ 32767 := by
  rw [oscSquare_eq]
  split <;> decide

theorem oscTriangle_bounds (p : Word) : -32767 ≤ oscTriangle p ∧ oscTriangle p ≤ 32767 := by
  rw [oscTriangle_eq]
  split <;> omega

theorem oscSaw_bounds (p : Word) : -32768 ≤ oscSaw p ∧ oscSaw p ≤ 32767 := by
  rw [oscSaw_eq]
  omega

theorem waveCode_cases (wave : BitVec 2) : wave = 0#2 ∨ wave = 1#2 ∨ wave = 2#2 ∨ wave = 3#2 := by
  revert wave
  decide

/-- Every waveform but the sawtooth stays within [-32767, 32767]. -/
theorem osc_bounds_of_ne_saw {t : SineTable} (h : t.wf = true) {wave : BitVec 2} (hwave : wave ≠ 3#2) (p : Word) :
    -32767 ≤ osc t wave p ∧ osc t wave p ≤ 32767 := by
  rcases waveCode_cases wave with rfl | rfl | rfl | rfl
  · exact sineEntry_bounds h _
  · exact oscSquare_bounds p
  · exact oscTriangle_bounds p
  · exact absurd rfl hwave

theorem osc_bounds {t : SineTable} (h : t.wf = true) (wave : BitVec 2) (p : Word) :
    -32768 ≤ osc t wave p ∧ osc t wave p ≤ 32767 := by
  by_cases hwave : wave = 3#2
  · subst hwave
    exact oscSaw_bounds p
  · obtain ⟨hlo, hhi⟩ := osc_bounds_of_ne_saw h hwave p
    exact ⟨by omega, hhi⟩

/-- An active voice's sample: the oscillator at its phase before the advance, at its level after the TICK. -/
theorem tickSample_of_not_Idle (t : SineTable) (P : ParamSet) {x : Voice} (h : x.ph ≠ .Idle) :
    tickSample t P x = voiceSample (osc t x.wave x.phase) (tickVoice P x).L := by
  obtain ⟨-, hL, -⟩ := tickVoice_envelope P x
  rw [tickSample, if_neg h, hL]

/-- Settles O47: each wave code selects its waveform, and each waveform has its formula and its range. -/
theorem oscillatorStaysInRange : Obligations.OscillatorStaysInRange := by
  unfold Obligations.OscillatorStaysInRange
  intro t wave p h
  refine ⟨osc_bounds h wave p, fun hwave => (osc_bounds_of_ne_saw h hwave p).1, ?selects,
    fun P x hx => tickSample_of_not_Idle t P hx⟩
  case selects =>
    rcases waveCode_cases wave with rfl | rfl | rfl | rfl
    · exact oscSine_eq t p
    · exact oscSquare_eq p
    · exact oscTriangle_eq p
    · exact oscSaw_eq p

end Sys2Proof.Machine
end

section
/-! SUPPORT. The filter (46_filter.md R275 to R279): a saturated value by the range it falls in, the sticky flag as a disjunction,
and the width of the exact sum from the widths of its factors. -/

namespace Sys2Proof.Machine

/-! ### Shift, saturation and sticky flag of a TICK's stage (R13, R276) -/

/-- The arithmetic shift right is the division rounded toward minus infinity. -/
theorem sra_eq_fdiv (a : Int) (n : Nat) : sra a n = Int.fdiv a (2 ^ n) :=
  (Int.fdiv_eq_ediv_of_nonneg a (by positivity)).symm

theorem sat16_of_lt {v : Int} (h : v < -32768) : sat16 v = -32768 := by
  unfold sat16 clamp; omega

theorem sat16_of_gt {v : Int} (h : 32767 < v) : sat16 v = 32767 := by
  unfold sat16 clamp; omega

theorem sat16_ne_self_iff {v : Int} : sat16 v ≠ v ↔ v < -32768 ∨ 32767 < v := by
  constructor
  · intro hne
    by_contra hmem
    exact hne (sat16_of_mem (by omega))
  · rintro (hlt | hgt)
    · rw [sat16_of_lt hlt]; omega
    · rw [sat16_of_gt hgt]; omega

theorem stick_eq_true {flag set : Bool} : stick flag set = true ↔ flag = true ∨ set = true := Bool.or_eq_true_iff

/-! ### The filter's output and flag (R275, R276) -/

/-- The rounded value is the exact sum with half a unit added, divided rounding down. -/
theorem filterR_eq_fdiv (P : ParamSet) (m : Sample) (s : State) :
    filterR P m s = Int.fdiv (biquadAcc P m s.x1 s.x2 s.y1 s.y2 + 2 ^ 29) (2 ^ 30) := sra_eq_fdiv _ 30

theorem filterY_toInt (P : ParamSet) (m : Sample) (s : State) : (filterY P m s).toInt = sat16 (filterR P m s) :=
  toInt_ofInt_sat16 _

theorem filterClips_eq_true {P : ParamSet} {m : Sample} {s : State} :
    filterClips P m s = true ↔ filterR P m s < -32768 ∨ 32767 < filterR P m s :=
  decide_eq_true_iff.trans sat16_ne_self_iff

/-- Settles O44: the output saturates the rounded sum of the mix and the history from before the TICK. -/
theorem tickFiltersTheMix : Obligations.TickFiltersTheMix := by
  unfold Obligations.TickFiltersTheMix
  intro s
  refine ⟨tickState s, exec_tick s, ?_⟩
  intro acc r
  have hr : filterR s.active (tickState s).MIX_OUT s = r := filterR_eq_fdiv _ _ s
  have hy : (tickState s).y1.toInt = sat16 r := hr ▸ filterY_toInt _ _ s
  have hclip : (tickState s).CLIP_FILT = true ↔ s.CLIP_FILT = true ∨ r < -32768 ∨ 32767 < r :=
    hr ▸ stick_eq_true.trans (or_congr_right filterClips_eq_true)
  exact ⟨fun hlt => hy.trans (sat16_of_lt hlt), fun hlo hhi => hy.trans (sat16_of_mem ⟨hlo, hhi⟩),
    fun hgt => hy.trans (sat16_of_gt hgt), hclip, tickState_x1 s, tickState_x2 s, tickState_y2 s⟩

/-! ### The width of the exact sum (R278) -/

theorem abs_toInt_le {n : Nat} (x : BitVec (n + 1)) : |x.toInt| ≤ 2 ^ n :=
  abs_le.2 ⟨BitVec.le_toInt x, BitVec.toInt_lt.le⟩

/-- A 32-bit coefficient times a 16-bit sample: 2^31 · 2^15. -/
theorem abs_coefficient_mul_sample_le (c : Word) (x : Sample) : |c.toInt * x.toInt| ≤ 2 ^ 46 :=
  calc |c.toInt * x.toInt| = |c.toInt| * |x.toInt| := abs_mul _ _
    _ ≤ 2 ^ 31 * 2 ^ 15 := mul_le_mul (abs_toInt_le c) (abs_toInt_le x) (abs_nonneg _) (by positivity)
    _ = 2 ^ 46 := by norm_num

/-- The sum has five such products, whatever their signs. -/
theorem abs_biquadAcc_le (P : ParamSet) (x0 x1 x2 y1 y2 : Sample) : |biquadAcc P x0 x1 x2 y1 y2| ≤ 5 * 2 ^ 46 := by
  obtain ⟨hb0, hb0'⟩ := abs_le.1 (abs_coefficient_mul_sample_le P.B0 x0)
  obtain ⟨hb1, hb1'⟩ := abs_le.1 (abs_coefficient_mul_sample_le P.B1 x1)
  obtain ⟨hb2, hb2'⟩ := abs_le.1 (abs_coefficient_mul_sample_le P.B2 x2)
  obtain ⟨ha1, ha1'⟩ := abs_le.1 (abs_coefficient_mul_sample_le P.A1 y1)
  obtain ⟨ha2, ha2'⟩ := abs_le.1 (abs_coefficient_mul_sample_le P.A2 y2)
  rw [biquadAcc, abs_le]
  constructor <;> linarith

/-- Settles O45: five products of magnitude 2^46 leave room below 2^49. -/
theorem filterSumFitsFiftyBits : Obligations.FilterSumFitsFiftyBits := by
  unfold Obligations.FilterSumFitsFiftyBits
  intro P x0 x1 x2 y1 y2
  have hsum := abs_biquadAcc_le P x0 x1 x2 y1 y2
  exact ⟨abs_coefficient_mul_sample_le, hsum, hsum.trans_lt (by norm_num)⟩

end Sys2Proof.Machine
end

section
/-! SUPPORT. The mixer (47_mixer_output.md R290 to R292): the exact sum as the sum over the voices before and after the TICK, the
mix as the saturated, gained sum, and the width of the sum from the range of a voice's sample. -/

namespace Sys2Proof.Machine

/-! ### The mix and its flag (R291, R292) -/

theorem mixGain_eq_fdiv (P : ParamSet) (acc : Int) :
    mixGain P acc = Int.fdiv (acc * (P.MIX_GAIN.toNat : Int)) (2 ^ 15) := sra_eq_fdiv _ 15

theorem mixM_toInt (P : ParamSet) (acc : Int) : (mixM P acc).toInt = sat16 (mixGain P acc) :=
  toInt_ofInt_sat16 _

theorem mixClips_eq_true {P : ParamSet} {acc : Int} :
    mixClips P acc = true ↔ mixGain P acc < -32768 ∨ 32767 < mixGain P acc :=
  decide_eq_true_iff.trans sat16_ne_self_iff

/-! ### The exact sum (R290, R232) -/

/-- A voice's sample from the voice before and after the TICK: its phase is read before, its level after. -/
theorem tickSample_eq_fdiv (t : SineTable) (P : ParamSet) (x : Voice) :
    tickSample t P x = if x.ph = .Idle then 0
      else Int.fdiv (osc t x.wave x.phase * ((tickVoice P x).L.toNat : Int)) (2 ^ 15) := by
  split
  case isTrue hidle => exact if_pos hidle
  case isFalse hactive => rw [tickSample_of_not_Idle t P hactive, voiceSample_eq_fdiv]

/-- The TICK maps the voices, so a sum over the voices is one over the pairs of a voice and its next value. -/
theorem mixSum_eq_sum_zip (s : State) :
    mixSum s = ((List.zip s.voice (tickState s).voice).map (fun xy : Voice × Voice =>
      if xy.1.ph = .Idle then 0
      else Int.fdiv (osc s.sineLut xy.1.wave xy.1.phase * (xy.2.L.toNat : Int)) (2 ^ 15))).sum := by
  have hsample : tickSample s.sineLut s.active = _ := funext (tickSample_eq_fdiv s.sineLut s.active)
  rw [mixSum, hsample, tickState_voice, ← List.map_prod_left_eq_zip, List.map_map]
  rfl

/-- Settles O43: the mix saturates the gained sum, whose summands read the phase before and the level after the TICK. -/
theorem tickMixesActiveVoices : Obligations.TickMixesActiveVoices := by
  unfold Obligations.TickMixesActiveVoices
  intro s
  refine ⟨tickState s, exec_tick s, ?_⟩
  intro acc g
  have hacc : mixSum s = acc := mixSum_eq_sum_zip s
  have hg : mixGain s.active (mixSum s) = g := hacc ▸ mixGain_eq_fdiv _ _
  have hm : (tickState s).MIX_OUT.toInt = sat16 g := hg ▸ mixM_toInt _ _
  have hclip : (tickState s).CLIP_MIX = true ↔ s.CLIP_MIX = true ∨ g < -32768 ∨ 32767 < g :=
    hg ▸ stick_eq_true.trans (or_congr_right mixClips_eq_true)
  exact ⟨fun hlt => hm.trans (sat16_of_lt hlt), fun hlo hhi => hm.trans (sat16_of_mem ⟨hlo, hhi⟩),
    fun hgt => hm.trans (sat16_of_gt hgt), hclip⟩

/-! ### The width of the exact sum (R290) -/

/-- The level after the TICK is at most 1.0 again, so scaling by it keeps the oscillator's range. -/
theorem tickSample_bounds {t : SineTable} {P : ParamSet} {x : Voice} (ht : t.wf = true) (hP : P.SUSTAIN.toNat ≤ 0x8000)
    (hx : VoiceInv x) : -32768 ≤ tickSample t P x ∧ tickSample t P x ≤ 32767 := by
  by_cases hidle : x.ph = .Idle
  · rw [tickSample, if_pos hidle]
    decide
  · obtain ⟨holo, hohi⟩ := osc_bounds ht x.wave x.phase
    obtain ⟨hL, -⟩ := tickVoice_voiceInv hP hx
    rw [tickSample_of_not_Idle t P hidle]
    exact voiceSample_bounds holo hohi hL

theorem abs_mixSum_le {s : State} (h : Bounds s) : |mixSum s| ≤ s.n * 32768 := by
  obtain ⟨-, hsine, hvoice, ⟨-, hactive⟩, -⟩ := h
  have hsample : ∀ m ∈ s.voice.map (tickSample s.sineLut s.active), -32768 ≤ m ∧ m ≤ 32768 := fun m hm => by
    obtain ⟨x, hx, rfl⟩ := List.mem_map.1 hm
    exact (tickSample_bounds hsine hactive (hvoice x hx)).imp_right fun hle => by omega
  have hlo := List.card_nsmul_le_sum _ _ fun m hm => (hsample m hm).1
  have hhi := List.sum_le_card_nsmul _ _ fun m hm => (hsample m hm).2
  rw [List.length_map, nsmul_eq_mul] at hlo hhi
  exact abs_le.2 ⟨by rwa [← mul_neg], hhi⟩

/-- Settles O46: a TICK sums at most sixteen samples, each of magnitude at most 32768. -/
theorem mixerSumFitsTwentyOneBits : Obligations.MixerSumFitsTwentyOneBits := by
  unfold Obligations.MixerSumFitsTwentyOneBits
  intro s h
  have hsum := abs_mixSum_le h
  obtain ⟨⟨-, h16⟩, -⟩ := h
  exact ⟨hsum, hsum.trans (by omega)⟩

end Sys2Proof.Machine
end

section
/-! SUPPORT. Errors, faults and the interrupt line (60_exceptions.md R300 to R310): which event alone stops the block, what an error
response writes and who else writes the record, and the level of irq as the disjunction of its enabled conditions. -/

namespace Sys2Proof.Machine

/-! ### What stops the block (R301, R306, R307, I2) -/

theorem performPort_answers_next (p : PortWord) (s : State) : ∃ t, performPort p s = .next t := by
  rcases performPort_cases p s with ⟨-, hp⟩ | ⟨-, i, -, hp⟩ | ⟨-, w, c, -, -, hp⟩ | ⟨-, -, hp⟩ <;> rw [hp]
  case inr.inl => exact exec_answers_next i s
  all_goals exact ⟨_, rfl⟩

/-- With `rst` at 0, the next event is a TICK that arrives while another is being computed (R345). -/
def OverrunNext (s : State) : Prop := s.rst = false ∧ ∃ rest, s.inputs = .tickOverrun :: rest

theorem step_of_overrunNext {s : State} (h : OverrunNext s) : step s = .fault .tickOverrun := by
  obtain ⟨hrst, rest, hin⟩ := h
  simp [step, hin, performEvent, hrst]

theorem step_answers_next {s : State} (h : ¬ OverrunNext s) : ∃ t, step s = .next t := by
  rcases step_cases s with ⟨-, hs⟩ | ⟨p, rest, -, hs⟩ | ⟨l, rest, -, hs⟩ | ⟨rest, -, -, hs⟩ | ⟨rest, hin, hrst, -⟩
  case inr.inl => exact hs ▸ performPort_answers_next p _
  case inr.inr.inr.inr => exact absurd ⟨hrst, rest, hin⟩ h
  all_goals exact ⟨_, hs⟩

/-- Settles O11: a step faults in front of an overrun at `rst` 0, and answers a next state otherwise. -/
theorem onlyTickOverrunStops : Obligations.OnlyTickOverrunStops := by
  unfold Obligations.OnlyTickOverrunStops
  refine ⟨exec_answers_next, fun s => ?_⟩
  by_cases h : OverrunNext s
  · have hfault := step_of_overrunNext h
    exact ⟨iff_of_true hfault h, .inl hfault⟩
  · obtain ⟨t, ht⟩ := step_answers_next h
    exact ⟨iff_of_false (by simp [ht]) h, .inr ⟨t, ht⟩⟩

/-! ### The error record (R302, R303) -/

/-- Bits `start` to `start + len - 1` of a word, from their value as a number. -/
theorem extractLsb'_eq_of_toNat {d : Word} {start len : Nat} {x : BitVec len} (h : d.toNat / 2 ^ start % 2 ^ len = x.toNat) :
    d.extractLsb' start len = x := by
  rw [← BitVec.toNat_inj, BitVec.extractLsb'_toNat, Nat.shiftRight_eq_div_pow, h]

/-- The fields of the ERR_INFO register (R46, R134). -/
theorem errInfoImage_fields (e : ErrInfo) :
    (errInfoImage e).extractLsb' 31 1 = e.W ∧ (errInfoImage e).extractLsb' 26 5 = 0#5 ∧
    (errInfoImage e).extractLsb' 16 10 = e.ADDR ∧ (errInfoImage e).extractLsb' 4 12 = 0#12 ∧
    (errInfoImage e).extractLsb' 0 4 = e.CODE := by
  have himage := errInfoImage_toNat e
  have hW := e.W.isLt
  have hADDR := e.ADDR.isLt
  have hCODE := e.CODE.isLt
  exact ⟨extractLsb'_eq_of_toNat (by omega), extractLsb'_eq_of_toNat (by rw [BitVec.toNat_zero]; omega),
    extractLsb'_eq_of_toNat (by omega), extractLsb'_eq_of_toNat (by rw [BitVec.toNat_zero]; omega),
    extractLsb'_eq_of_toNat (by omega)⟩

theorem raiseBusError_ERR_INFO_of_ERR {c : BusError} {w : BitVec 1} {a : Addr} {s : State} (h : s.ERR = true) :
    (raiseBusError c w a s).ERR_INFO = s.ERR_INFO := if_pos h

theorem raiseBusError_ERR_INFO_of_not_ERR {c : BusError} {w : BitVec 1} {a : Addr} {s : State} (h : s.ERR = false) :
    (raiseBusError c w a s).ERR_INFO = { CODE := errorCode c, ADDR := a, W := w } := if_neg (by simp [h])

/-- An operation a port word decodes to finds its voice (R97). -/
theorem wf_of_decode {n : Nat} {p : PortWord} {i : Instr} (h : decode n p = .op i) : i.wf n = true := by
  cases p with
  | txn w => exact (encode_of_decode_txn h).1
  | strobe b =>
    rw [decode] at h
    split at h <;> cases h
    rfl

theorem Effect.ERR_INFO_cases {s t : State} {i : Instr} (h : Effect s i t) (hwf : i.wf s.n = true) :
    t.ERR_INFO = s.ERR_INFO ∨ i = .softReset := by
  cases h with
  | softReset => exact .inr rfl
  | noVoice i v w a hi hv => exact absurd (voiceIndex_lt_of_wf hwf hi) (by omega)
  | _ => exact .inl rfl

/-- A port word is lost while `rst` is 1 (R331). -/
theorem step_of_port_of_rst {s : State} {p : PortWord} {rest : List Event} (hrst : s.rst = true)
    (hin : s.inputs = .port p :: rest) : step s = .next { s with inputs := rest } := by
  rw [step_of_port hin, performPort, if_pos hrst]

/-- A port word writes the record only with `rst` at 0. -/
theorem rst_of_port_writes_ERR_INFO {s t : State} {p : PortWord} {rest : List Event} (hin : s.inputs = .port p :: rest)
    (h : step s = .next t) (hne : t.ERR_INFO ≠ s.ERR_INFO) : s.rst = false := by
  by_contra hrst
  rw [step_of_port_of_rst (by simpa using hrst) hin] at h
  cases h
  exact hne rfl

/-- Who writes the record: a reset, SOFT_RESET, or an error response taken while ERR is 0 (R303, R330, R332). -/
theorem step_ERR_INFO_writers {s t : State} (h : step s = .next t) (hne : t.ERR_INFO ≠ s.ERR_INFO) :
    (∃ l rest, s.inputs = .rst l :: rest) ∨
    (s.rst = false ∧ ∃ p rest, s.inputs = .port p :: rest ∧ decode s.n p = .op .softReset) ∨
    (s.rst = false ∧ s.ERR = false ∧ t.ERR = true ∧
      ∃ w rest c, s.inputs = .port (.txn w) :: rest ∧ decode s.n (.txn w) = .error c) := by
  cases stepEffect_of_step h with
  | quiet => exact absurd rfl hne
  | op p rest i t hin hd he =>
    obtain rfl : i = .softReset := (he.ERR_INFO_cases (wf_of_decode hd)).resolve_left hne
    exact .inr (.inl ⟨rst_of_port_writes_ERR_INFO hin h hne, p, rest, hin, hd⟩)
  | error w rest c hin hd =>
    have hERR : s.ERR = false := by
      by_contra hset
      exact hne (raiseBusError_ERR_INFO_of_ERR (s := { s with inputs := rest }) (by simpa using hset))
    exact .inr (.inr ⟨rst_of_port_writes_ERR_INFO hin h hne, hERR, rfl, w, rest, c, hin, hd⟩)
  | reset l rest hin => exact .inl ⟨l, rest, hin⟩

/-- Settles O13: the record bound is the one `raiseBusError` leaves, and its writers are those of `step_ERR_INFO_writers`. -/
theorem errorResponseChangesOnlyTheRecord : Obligations.ErrorResponseChangesOnlyTheRecord := by
  unfold Obligations.ErrorResponseChangesOnlyTheRecord
  refine ⟨?response, ?readback, fun s d => ⟨_, rfl, rfl⟩, fun s t => step_ERR_INFO_writers⟩
  case response =>
    intro s w rest c hrst hin hd
    refine ⟨(raiseBusError c (txnW w) (txnAddr w) s).ERR_INFO, step_of_error hrst hin hd, raiseBusError_ERR_INFO_of_ERR,
      fun hERR => ?_⟩
    rw [raiseBusError_ERR_INFO_of_not_ERR hERR]
    refine ⟨rfl, rfl, ?_⟩
    cases c <;> rfl
  case readback =>
    intro s
    exact ⟨errInfoImage s.ERR_INFO, respondOk_eq_answered s rfl, errInfoImage_fields s.ERR_INFO⟩

/-! ### The interrupt line (R310) -/

theorem irq_eq_true_iff (s : State) : irq s = true ↔
    (s.IDLE_IE = true ∧ s.IDLE_EVENTS ≠ 0#16) ∨ (s.ERR_IE = true ∧ s.ERR = true) ∨
    (s.CLIP_IE = true ∧ (s.CLIP_MIX = true ∨ s.CLIP_FILT = true)) := by
  simp only [irq, Bool.or_eq_true, Bool.and_eq_true, decide_eq_true_eq, or_assoc]

theorem irqLine_of_rst {s : State} (h : s.rst = true) : irqLine s = false := by
  simp [irqLine, h]

theorem irqLine_of_not_rst {s : State} (h : s.rst = false) : irqLine s = irq s := by
  simp [irqLine, h]

/-- The line is low in a state with no enabled condition, whatever `rst` is. -/
theorem irqLine_of_irq {s : State} (h : irq s = false) : irqLine s = false := by
  simp [irqLine, h]

theorem irq_of_no_enable {s : State} (hidle : s.IDLE_IE = false) (herr : s.ERR_IE = false) (hclip : s.CLIP_IE = false) :
    irq s = false := by
  simp [irq, hidle, herr, hclip]

theorem irq_of_no_condition {s : State} (hidle : s.IDLE_EVENTS = 0#16) (herr : s.ERR = false) (hmix : s.CLIP_MIX = false)
    (hfilt : s.CLIP_FILT = false) : irq s = false := by
  simp [irq, hidle, herr, hmix, hfilt]

/-- A set bit of IDLE_EVENTS is below N when the events, as a number, are below 2^N. -/
theorem lt_of_getLsbD_IDLE_EVENTS {s : State} {v : Nat} (hs : s.IDLE_EVENTS.toNat < 2 ^ s.n)
    (hv : s.IDLE_EVENTS.getLsbD v = true) : v < s.n :=
  (Nat.pow_lt_pow_iff_right (by omega)).1 ((Nat.ge_two_pow_of_testBit hv).trans_lt hs)

/-- WR_IDLE_EVENTS of all ones clears every event of a voice there is (R136). -/
theorem clearIdleEvents_allOnes {s : State} (hs : s.IDLE_EVENTS.toNat < 2 ^ s.n) :
    (clearIdleEvents (BitVec.allOnes 32) s).IDLE_EVENTS = 0#16 := by
  refine BitVec.eq_of_getLsbD_eq fun v hv => ?_
  rw [BitVec.getLsbD_zero, Bool.eq_false_iff]
  intro hset
  obtain ⟨hold, hkept⟩ := (getLsbD_clearIdleEvents_iff _ s hv).1 hset
  exact hkept ⟨lt_of_getLsbD_IDLE_EVENTS hs hold, by rw [BitVec.getLsbD_allOnes, decide_eq_true_eq]; omega⟩

/-- Settles O23: the line is the disjunction of `irq_eq_true_iff`, read in the states the three writes leave. -/
theorem interruptLineIsTheEnabledConditions : Obligations.InterruptLineIsTheEnabledConditions := by
  unfold Obligations.InterruptLineIsTheEnabledConditions
  refine ⟨fun _ => irqLine_of_rst, ?level, ?rises, ?disabled, ?cleared⟩
  case level =>
    intro s hrst
    rw [irqLine_of_not_rst hrst, irq_eq_true_iff]
  case rises =>
    intro s t hrst h
    have ht := writeDone_eq_next.1 h
    have htrst : t.rst = false := ht ▸ hrst
    rw [irqLine_of_not_rst htrst, irq_eq_true_iff, ht]
    simp
  case disabled =>
    intro s t h
    obtain rfl := writeDone_eq_next.1 h
    exact irqLine_of_irq (irq_of_no_enable rfl rfl rfl)
  case cleared =>
    intro s t u _ hevents hstatus hidle
    obtain rfl := writeDone_eq_next.1 hstatus
    obtain rfl := writeDone_eq_next.1 hidle
    exact irqLine_of_irq (irq_of_no_condition
      (clearIdleEvents_allOnes (s := respond .ok 0#32 (clearStatus 7#32 s)) hevents) rfl rfl rfl)

end Sys2Proof.Machine
end

section
/-! SUPPORT. Reset (70_reset_and_hazards.md R330, R331): the values of the reset state, and what each level of the `rst` input does
to the state. -/

namespace Sys2Proof.Machine

/-! ### The reset state (R330) -/

theorem resetOf_n (c : Config) : (State.resetOf c).n = c.n := List.length_replicate

theorem eq_reset_of_mem_resetOf {c : Config} {x : Voice} (hx : x ∈ (State.resetOf c).voice) : x = Voice.reset :=
  List.eq_of_mem_replicate hx

/-- The gain after reset is floor(0x8000 / N): it fits its 16 bits, for N = 0 too. -/
theorem reset_MIX_GAIN_toNat (n : Nat) : (ParamSet.reset n).MIX_GAIN.toNat = 0x8000 / n := by
  have hle : 0x8000 / n ≤ 0x8000 := Nat.div_le_self 0x8000 n
  rw [ParamSet.reset, BitVec.toNat_ofNat, Nat.mod_eq_of_lt (by omega)]

/-- With every voice Idle no bit of ACTIVE_MASK is set (R40). -/
theorem activeMask_of_idle {s : State} (h : ∀ x ∈ s.voice, x.ph = .Idle) : activeMask s = 0#16 := by
  refine BitVec.eq_of_getLsbD_eq fun v hv => ?_
  rw [BitVec.getLsbD_zero, Bool.eq_false_iff]
  intro hset
  obtain ⟨x, hx, hactive⟩ := (getLsbD_activeMask hv).1 hset
  exact hactive (h x (List.mem_of_getElem? hx))

theorem activeCount_of_activeMask_zero {s : State} (h : activeMask s = 0#16) : activeCount s = 0 := by
  rw [activeCount, h]
  decide

theorem activeMask_resetOf (c : Config) : activeMask (State.resetOf c) = 0#16 :=
  activeMask_of_idle fun _ hx => eq_reset_of_mem_resetOf hx ▸ rfl

theorem irqLine_resetOf (c : Config) : irqLine (State.resetOf c) = false :=
  irqLine_of_irq (irq_of_no_enable rfl rfl rfl)

/-! ### The `rst` input (R330, R331) -/

theorem step_of_rst {s : State} {l : Bool} {rest : List Event} (hin : s.inputs = .rst l :: rest) :
    step s = .next (setRst l { s with inputs := rest }) := by
  simp [step, hin, performEvent]

/-- A rise or fall of `rst`, or a level of 1 held, puts the block in the reset state; the schedule moves on and the record of the
ports stays (log entry 6). -/
theorem step_of_rst_resets {s : State} {l : Bool} {rest : List Event} (hin : s.inputs = .rst l :: rest)
    (hl : l = true ∨ s.rst = true) :
    step s = .next { State.resetOf { n := s.n, sineLut := s.sineLut } with
      rst := l, inputs := rest, responses := s.responses, samples := s.samples } := by
  rw [step_of_rst hin]
  rcases setRst_cases l { s with inputs := rest } with ⟨hlow, hrst, -⟩ | ⟨-, hset⟩
  · exact absurd hl (by simp [hlow, show s.rst = false from hrst])
  · rw [hset]
    rfl

/-- A level of 0 at `rst` 0 is no edge: only the schedule moves on. -/
theorem step_of_rst_low {s : State} {rest : List Event} (hrst : s.rst = false) (hin : s.inputs = .rst false :: rest) :
    step s = .next { s with inputs := rest } := by
  rw [step_of_rst hin]
  rcases setRst_cases false { s with inputs := rest } with ⟨-, -, hset⟩ | ⟨hhigh, -⟩
  · rw [hset]
  · exact absurd hhigh (by simp [hrst])

/-- Settles O24: the fields are those of `State.resetOf`; a port word at `rst` 1 is lost by `step_of_port_of_rst`, and the fall
resets by `step_of_rst_resets`. -/
theorem resetStateIsAsListed : Obligations.ResetStateIsAsListed := by
  unfold Obligations.ResetStateIsAsListed
  refine ⟨?fields, by decide, by decide, by decide, by decide, by decide, ?high, ?fall⟩
  case fields =>
    intro c
    have hmask := activeMask_resetOf c
    refine ⟨resetOf_n c, rfl, fun x => eq_reset_of_mem_resetOf, rfl, rfl, rfl, rfl, rfl, rfl, rfl, rfl, rfl, rfl, ?gain, ?rest⟩
    case gain => exact fun _ => reset_MIX_GAIN_toNat c.n
    case rest =>
      exact ⟨rfl, rfl, rfl, rfl, rfl, rfl, rfl, rfl, rfl, rfl, rfl, rfl, rfl, rfl, rfl, rfl, rfl, rfl, rfl, rfl,
        irqLine_resetOf c, hmask, activeCount_of_activeMask_zero hmask⟩
  case high => exact fun s p rest hrst => ⟨irqLine_of_rst hrst, step_of_port_of_rst hrst⟩
  case fall => exact fun s rest hrst hin => ⟨_, step_of_rst_resets hin (.inr hrst), rfl⟩

/-- Settles O25: the two edges are `step_of_rst_resets`, and a level of 0 held is `step_of_rst_low`. -/
theorem raisingRstResets : Obligations.RaisingRstResets := by
  unfold Obligations.RaisingRstResets
  refine ⟨?rise, ?fall, ?low⟩
  case rise => exact fun s rest hin => step_of_rst_resets hin (.inl rfl)
  case fall => exact fun s rest hrst hin => step_of_rst_resets hin (.inr hrst)
  case low => exact fun s rest hrst hin => step_of_rst_low hrst hin

end Sys2Proof.Machine
end
